-- ==== Sys2Proof/Word.lean ====
section
/-! DEFINITION. The word types of the machine: a byte (every register and every memory cell, 00_scope.md R6),
a CPU address (16 bits) and a PPU address (14 bits). Helpers on them stand in Machine/Bits.lean. -/
namespace Sys2Proof

/-- 8 bits: the data width (00_scope.md R6). -/
abbrev Byte := BitVec 8

/-- 16 bits: the CPU address width (00_scope.md R6). -/
abbrev Addr := BitVec 16

/-- 14 bits: the PPU address width (00_scope.md R6). -/
abbrev PpuAddr := BitVec 14

end Sys2Proof
end

