-- ==== Sys2Proof/Machine/Memory.lean ====
section
/-! DEFINITION. A byte array as a list of (index, byte) pairs in ONE canonical form: indexes strictly rising, and no
entry equal to what an unlisted index reads as. The machine's arrays are the CPU RAM (10_state.md R30), the
VRAM, palette and OAM (R41 to R43) and the cartridge's PRG and CHR (00_scope.md R7). -/
namespace Sys2Proof

/-- A byte array: its listed cells. -/
abbrev Memory := List Host.Cell

/-- What an index that is not listed reads as. DESIGN CHOICE (notes/assumptions/4.md, 5.md; unsafe): the spec leaves
the power-on contents OPEN (70_reset_and_hazards.md R495); zero is what its test vectors take. -/
def Memory.blank : Byte := 0x00

/-- The byte at index `a`. -/
def Memory.read : Memory → Nat → Byte
  | [], _ => Memory.blank
  | (b, w) :: m, a => if a = b then w else if a < b then Memory.blank else Memory.read m a

/-- The array with byte `v` at index `a`; the canonical form is kept: writing the blank byte removes the entry. -/
def Memory.write : Memory → Nat → Byte → Memory
  | [], a, v => if v = Memory.blank then [] else [(a, v)]
  | (b, w) :: m, a, v =>
    if a < b then
      if v = Memory.blank then (b, w) :: m else (a, v) :: (b, w) :: m
    else if a = b then
      if v = Memory.blank then m else (a, v) :: m
    else (b, w) :: Memory.write m a v

/-- The cells rise strictly from index `lo` on and none holds the blank byte. -/
def Memory.wfFrom : Nat → Memory → Bool
  | _, [] => true
  | lo, (a, v) :: m => decide (lo ≤ a) && decide (v ≠ Memory.blank) && Memory.wfFrom (a + 1) m

/-- The canonical form. -/
def Memory.wf (m : Memory) : Bool := Memory.wfFrom 0 m

/-- Every listed index lies below `n`: the array has `n` bytes. -/
def Memory.below (n : Nat) (m : Memory) : Bool := m.all fun c => decide (c.1 < n)

/-- The array whose bytes from index `i` on are `bytes`, in canonical form. -/
def Memory.ofBytesFrom : Nat → List Byte → Memory
  | _, [] => []
  | i, v :: vs =>
    if v = Memory.blank then Memory.ofBytesFrom (i + 1) vs else (i, v) :: Memory.ofBytesFrom (i + 1) vs

/-- The array that holds `bytes` from index 0 on. -/
def Memory.ofBytes (bytes : List Byte) : Memory := Memory.ofBytesFrom 0 bytes

end Sys2Proof
end

