-- ==== Sys2Proof/Config.lean ====
section
/-! DEFINITION. What is fixed for a machine: the shape of an opcode table entry and the addressing modes
(30_encoding.md R132, R134), and the configuration that the cartridge and the builder give (00_scope.md R7). The
configuration is plain data that State holds and no step changes; the machine has no free value
(00_scope.md R14: "Nothing in the machine is non-deterministic"). -/
namespace Sys2Proof

/-- The thirteen addressing modes, by their format codes (30_encoding.md R132). -/
inductive Mode where
  | imp | acc | imm | zp | zpx | zpy | abs | abx | aby | izx | izy | rel | ind
  deriving DecidableEq, Repr

/-- The modes that yield an effective address (40_cpu_step_addressing.md R166 to R173). -/
inductive DataMode where
  | imm | zp | zpx | zpy | abs | abx | aby | izx | izy
  deriving DecidableEq, Repr

/-- The opcode descriptor: "{mnemonic, byte length including opcode, base cycle cost, addressing mode}"
(00_scope.md R15, 30_encoding.md R134), with the opcode byte it stands at and whether it is official. -/
structure OpDesc where
  opcode   : Byte
  mnemonic : String
  mode     : Mode
  len      : Nat
  cycles   : Nat
  official : Bool
  deriving DecidableEq, Repr

/-- The nametable mirroring modes a machine can have (47_ppu_registers.md R374). FOUR_SCREEN is not admitted
(R376, 49_devices.md R436): the loader refuses it, so no machine holds it. -/
inductive Mirroring where
  | vertical | horizontal
  deriving DecidableEq, Repr

/-- The two admitted PRG-ROM sizes, 0x4000 and 0x8000 bytes (49_devices.md R436). -/
inductive PrgSize where
  | k16 | k32
  deriving DecidableEq, Repr

/-- The configuration (00_scope.md R7, 49_devices.md R435): "Immutable once parsed". -/
structure Config where
  /-- PRG-ROM. -/
  prg       : Memory
  /-- The length of PRG-ROM. -/
  prgSize   : PrgSize
  /-- CHR-ROM, 0x2000 bytes. -/
  chr       : Memory
  /-- The mapper id; the spec admits 0 only, and no rule reads it. -/
  mapper    : Byte
  /-- Nametable mirroring. -/
  mirroring : Mirroring
  /-- STRICT: whether an InvalidAccess stops the machine (60_exceptions.md R455). -/
  strict    : Bool
  deriving DecidableEq, Repr

/-- A blank cartridge in a permissive machine: 32 KB of PRG and 8 KB of CHR with nothing listed, HORIZONTAL mirroring
(DESIGN CHOICE, notes/assumptions/5.md, unsafe); `STRICT = false` is the spec's default (00_scope.md R7). -/
def Config.blank : Config :=
  { prg := [], prgSize := .k32, chr := [], mapper := 0, mirroring := .horizontal, strict := false }

end Sys2Proof
end

