-- ==== Sys2Proof/Syntax.lean ====
section
/-! DEFINITION. The instructions: one constructor for each of the 256 rows of spec/opcode_table.json (30_encoding.md
R134: "OPTABLE has exactly one entry for each of the 256 opcode byte values"). A constructor is named by its mnemonic
and its addressing mode; where several opcodes share both (the NOPs, ANC, the second SBC) by mnemonic and opcode byte.

A constructor carries no operand: in this machine the opcode byte alone is decoded (30_encoding.md R130, R131: "The opcode
byte has no sub-fields that a decoder needs: the 256-row table is the decode"), and operand bytes are read through the Bus
while the instruction executes (40_cpu_step_addressing.md R160 step 4, R161), some of them late (JSR pushes first,
44_control_flow.md R252) or never (a not-taken branch, R254; an immediate NOP, 46_unofficial.md R316). An instruction together
with its operand bytes is the structure `Code` of WellFormed.lean (DEDUCED, notes/assumptions/1.md, safe). -/
namespace Sys2Proof

/-- The instruction set: one constructor per opcode byte. -/
inductive Instr where
  | brk | oraIzx | nop02 | sloIzx | nop04 | oraZp | aslZp | sloZp
  | php | oraImm | aslAcc | anc0B | nop0C | oraAbs | aslAbs | sloAbs
  | bpl | oraIzy | nop12 | sloIzy | nop14 | oraZpx | aslZpx | sloZpx
  | clc | oraAby | nop1A | sloAby | nop1C | oraAbx | aslAbx | sloAbx
  | jsr | andIzx | nop22 | rlaIzx | bitZp | andZp | rolZp | rlaZp
  | plp | andImm | rolAcc | anc2B | bitAbs | andAbs | rolAbs | rlaAbs
  | bmi | andIzy | nop32 | rlaIzy | nop34 | andZpx | rolZpx | rlaZpx
  | sec | andAby | nop3A | rlaAby | nop3C | andAbx | rolAbx | rlaAbx
  | rti | eorIzx | nop42 | sreIzx | nop44 | eorZp | lsrZp | sreZp
  | pha | eorImm | lsrAcc | alrImm | jmpAbs | eorAbs | lsrAbs | sreAbs
  | bvc | eorIzy | nop52 | sreIzy | nop54 | eorZpx | lsrZpx | sreZpx
  | cli | eorAby | nop5A | sreAby | nop5C | eorAbx | lsrAbx | sreAbx
  | rts | adcIzx | nop62 | rraIzx | nop64 | adcZp | rorZp | rraZp
  | pla | adcImm | rorAcc | arrImm | jmpInd | adcAbs | rorAbs | rraAbs
  | bvs | adcIzy | nop72 | rraIzy | nop74 | adcZpx | rorZpx | rraZpx
  | sei | adcAby | nop7A | rraAby | nop7C | adcAbx | rorAbx | rraAbx
  | nop80 | staIzx | nop82 | saxIzx | styZp | staZp | stxZp | saxZp
  | dey | nop89 | txa | xaaImm | styAbs | staAbs | stxAbs | saxAbs
  | bcc | staIzy | nop92 | ahxIzy | styZpx | staZpx | stxZpy | saxZpy
  | tya | staAby | txs | tasAby | shyAbx | staAbx | shxAby | ahxAby
  | ldyImm | ldaIzx | ldxImm | laxIzx | ldyZp | ldaZp | ldxZp | laxZp
  | tay | ldaImm | tax | lxaImm | ldyAbs | ldaAbs | ldxAbs | laxAbs
  | bcs | ldaIzy | nopB2 | laxIzy | ldyZpx | ldaZpx | ldxZpy | laxZpy
  | clv | ldaAby | tsx | lasAby | ldyAbx | ldaAbx | ldxAby | laxAby
  | cpyImm | cmpIzx | nopC2 | dcpIzx | cpyZp | cmpZp | decZp | dcpZp
  | iny | cmpImm | dex | axsImm | cpyAbs | cmpAbs | decAbs | dcpAbs
  | bne | cmpIzy | nopD2 | dcpIzy | nopD4 | cmpZpx | decZpx | dcpZpx
  | cld | cmpAby | nopDA | dcpAby | nopDC | cmpAbx | decAbx | dcpAbx
  | cpxImm | sbcIzx | nopE2 | isbIzx | cpxZp | sbcZp | incZp | isbZp
  | inx | sbcImm | nopEA | sbcEB | cpxAbs | sbcAbs | incAbs | isbAbs
  | beq | sbcIzy | nopF2 | isbIzy | nopF4 | sbcZpx | incZpx | isbZpx
  | sed | sbcAby | nopFA | isbAby | nopFC | sbcAbx | incAbx | isbAbx
  deriving DecidableEq, Repr

end Sys2Proof
end

