-- ==== Sys2Proof/Machine/OpTable.lean ====
section
/-! DEFINITION. The opcode table as 30_encoding.md R134 prints it: the descriptor of every instruction, and the 256
instructions in the order of their opcode bytes. -/
namespace Sys2Proof

/-- The descriptor of each instruction: opcode byte, mnemonic, mode, length, base cycle cost, official or not
(30_encoding.md R134, R135). -/
def Instr.desc : Instr → OpDesc
  | .brk => ⟨0x00, "BRK", .imp, 1, 7, true⟩
  | .oraIzx => ⟨0x01, "ORA", .izx, 2, 6, true⟩
  | .nop02 => ⟨0x02, "NOP", .imp, 1, 2, false⟩
  | .sloIzx => ⟨0x03, "SLO", .izx, 2, 8, false⟩
  | .nop04 => ⟨0x04, "NOP", .zp, 2, 3, false⟩
  | .oraZp => ⟨0x05, "ORA", .zp, 2, 3, true⟩
  | .aslZp => ⟨0x06, "ASL", .zp, 2, 5, true⟩
  | .sloZp => ⟨0x07, "SLO", .zp, 2, 5, false⟩
  | .php => ⟨0x08, "PHP", .imp, 1, 3, true⟩
  | .oraImm => ⟨0x09, "ORA", .imm, 2, 2, true⟩
  | .aslAcc => ⟨0x0A, "ASL", .acc, 1, 2, true⟩
  | .anc0B => ⟨0x0B, "ANC", .imm, 2, 2, false⟩
  | .nop0C => ⟨0x0C, "NOP", .abs, 3, 4, false⟩
  | .oraAbs => ⟨0x0D, "ORA", .abs, 3, 4, true⟩
  | .aslAbs => ⟨0x0E, "ASL", .abs, 3, 6, true⟩
  | .sloAbs => ⟨0x0F, "SLO", .abs, 3, 6, false⟩
  | .bpl => ⟨0x10, "BPL", .rel, 2, 2, true⟩
  | .oraIzy => ⟨0x11, "ORA", .izy, 2, 5, true⟩
  | .nop12 => ⟨0x12, "NOP", .imp, 1, 2, false⟩
  | .sloIzy => ⟨0x13, "SLO", .izy, 2, 8, false⟩
  | .nop14 => ⟨0x14, "NOP", .zpx, 2, 4, false⟩
  | .oraZpx => ⟨0x15, "ORA", .zpx, 2, 4, true⟩
  | .aslZpx => ⟨0x16, "ASL", .zpx, 2, 6, true⟩
  | .sloZpx => ⟨0x17, "SLO", .zpx, 2, 6, false⟩
  | .clc => ⟨0x18, "CLC", .imp, 1, 2, true⟩
  | .oraAby => ⟨0x19, "ORA", .aby, 3, 4, true⟩
  | .nop1A => ⟨0x1A, "NOP", .imp, 1, 2, false⟩
  | .sloAby => ⟨0x1B, "SLO", .aby, 3, 7, false⟩
  | .nop1C => ⟨0x1C, "NOP", .abx, 3, 4, false⟩
  | .oraAbx => ⟨0x1D, "ORA", .abx, 3, 4, true⟩
  | .aslAbx => ⟨0x1E, "ASL", .abx, 3, 7, true⟩
  | .sloAbx => ⟨0x1F, "SLO", .abx, 3, 7, false⟩
  | .jsr => ⟨0x20, "JSR", .abs, 3, 6, true⟩
  | .andIzx => ⟨0x21, "AND", .izx, 2, 6, true⟩
  | .nop22 => ⟨0x22, "NOP", .imp, 1, 2, false⟩
  | .rlaIzx => ⟨0x23, "RLA", .izx, 2, 8, false⟩
  | .bitZp => ⟨0x24, "BIT", .zp, 2, 3, true⟩
  | .andZp => ⟨0x25, "AND", .zp, 2, 3, true⟩
  | .rolZp => ⟨0x26, "ROL", .zp, 2, 5, true⟩
  | .rlaZp => ⟨0x27, "RLA", .zp, 2, 5, false⟩
  | .plp => ⟨0x28, "PLP", .imp, 1, 4, true⟩
  | .andImm => ⟨0x29, "AND", .imm, 2, 2, true⟩
  | .rolAcc => ⟨0x2A, "ROL", .acc, 1, 2, true⟩
  | .anc2B => ⟨0x2B, "ANC", .imm, 2, 2, false⟩
  | .bitAbs => ⟨0x2C, "BIT", .abs, 3, 4, true⟩
  | .andAbs => ⟨0x2D, "AND", .abs, 3, 4, true⟩
  | .rolAbs => ⟨0x2E, "ROL", .abs, 3, 6, true⟩
  | .rlaAbs => ⟨0x2F, "RLA", .abs, 3, 6, false⟩
  | .bmi => ⟨0x30, "BMI", .rel, 2, 2, true⟩
  | .andIzy => ⟨0x31, "AND", .izy, 2, 5, true⟩
  | .nop32 => ⟨0x32, "NOP", .imp, 1, 2, false⟩
  | .rlaIzy => ⟨0x33, "RLA", .izy, 2, 8, false⟩
  | .nop34 => ⟨0x34, "NOP", .zpx, 2, 4, false⟩
  | .andZpx => ⟨0x35, "AND", .zpx, 2, 4, true⟩
  | .rolZpx => ⟨0x36, "ROL", .zpx, 2, 6, true⟩
  | .rlaZpx => ⟨0x37, "RLA", .zpx, 2, 6, false⟩
  | .sec => ⟨0x38, "SEC", .imp, 1, 2, true⟩
  | .andAby => ⟨0x39, "AND", .aby, 3, 4, true⟩
  | .nop3A => ⟨0x3A, "NOP", .imp, 1, 2, false⟩
  | .rlaAby => ⟨0x3B, "RLA", .aby, 3, 7, false⟩
  | .nop3C => ⟨0x3C, "NOP", .abx, 3, 4, false⟩
  | .andAbx => ⟨0x3D, "AND", .abx, 3, 4, true⟩
  | .rolAbx => ⟨0x3E, "ROL", .abx, 3, 7, true⟩
  | .rlaAbx => ⟨0x3F, "RLA", .abx, 3, 7, false⟩
  | .rti => ⟨0x40, "RTI", .imp, 1, 6, true⟩
  | .eorIzx => ⟨0x41, "EOR", .izx, 2, 6, true⟩
  | .nop42 => ⟨0x42, "NOP", .imp, 1, 2, false⟩
  | .sreIzx => ⟨0x43, "SRE", .izx, 2, 8, false⟩
  | .nop44 => ⟨0x44, "NOP", .zp, 2, 3, false⟩
  | .eorZp => ⟨0x45, "EOR", .zp, 2, 3, true⟩
  | .lsrZp => ⟨0x46, "LSR", .zp, 2, 5, true⟩
  | .sreZp => ⟨0x47, "SRE", .zp, 2, 5, false⟩
  | .pha => ⟨0x48, "PHA", .imp, 1, 3, true⟩
  | .eorImm => ⟨0x49, "EOR", .imm, 2, 2, true⟩
  | .lsrAcc => ⟨0x4A, "LSR", .acc, 1, 2, true⟩
  | .alrImm => ⟨0x4B, "ALR", .imm, 2, 2, false⟩
  | .jmpAbs => ⟨0x4C, "JMP", .abs, 3, 3, true⟩
  | .eorAbs => ⟨0x4D, "EOR", .abs, 3, 4, true⟩
  | .lsrAbs => ⟨0x4E, "LSR", .abs, 3, 6, true⟩
  | .sreAbs => ⟨0x4F, "SRE", .abs, 3, 6, false⟩
  | .bvc => ⟨0x50, "BVC", .rel, 2, 2, true⟩
  | .eorIzy => ⟨0x51, "EOR", .izy, 2, 5, true⟩
  | .nop52 => ⟨0x52, "NOP", .imp, 1, 2, false⟩
  | .sreIzy => ⟨0x53, "SRE", .izy, 2, 8, false⟩
  | .nop54 => ⟨0x54, "NOP", .zpx, 2, 4, false⟩
  | .eorZpx => ⟨0x55, "EOR", .zpx, 2, 4, true⟩
  | .lsrZpx => ⟨0x56, "LSR", .zpx, 2, 6, true⟩
  | .sreZpx => ⟨0x57, "SRE", .zpx, 2, 6, false⟩
  | .cli => ⟨0x58, "CLI", .imp, 1, 2, true⟩
  | .eorAby => ⟨0x59, "EOR", .aby, 3, 4, true⟩
  | .nop5A => ⟨0x5A, "NOP", .imp, 1, 2, false⟩
  | .sreAby => ⟨0x5B, "SRE", .aby, 3, 7, false⟩
  | .nop5C => ⟨0x5C, "NOP", .abx, 3, 4, false⟩
  | .eorAbx => ⟨0x5D, "EOR", .abx, 3, 4, true⟩
  | .lsrAbx => ⟨0x5E, "LSR", .abx, 3, 7, true⟩
  | .sreAbx => ⟨0x5F, "SRE", .abx, 3, 7, false⟩
  | .rts => ⟨0x60, "RTS", .imp, 1, 6, true⟩
  | .adcIzx => ⟨0x61, "ADC", .izx, 2, 6, true⟩
  | .nop62 => ⟨0x62, "NOP", .imp, 1, 2, false⟩
  | .rraIzx => ⟨0x63, "RRA", .izx, 2, 8, false⟩
  | .nop64 => ⟨0x64, "NOP", .zp, 2, 3, false⟩
  | .adcZp => ⟨0x65, "ADC", .zp, 2, 3, true⟩
  | .rorZp => ⟨0x66, "ROR", .zp, 2, 5, true⟩
  | .rraZp => ⟨0x67, "RRA", .zp, 2, 5, false⟩
  | .pla => ⟨0x68, "PLA", .imp, 1, 4, true⟩
  | .adcImm => ⟨0x69, "ADC", .imm, 2, 2, true⟩
  | .rorAcc => ⟨0x6A, "ROR", .acc, 1, 2, true⟩
  | .arrImm => ⟨0x6B, "ARR", .imm, 2, 2, false⟩
  | .jmpInd => ⟨0x6C, "JMP", .ind, 3, 5, true⟩
  | .adcAbs => ⟨0x6D, "ADC", .abs, 3, 4, true⟩
  | .rorAbs => ⟨0x6E, "ROR", .abs, 3, 6, true⟩
  | .rraAbs => ⟨0x6F, "RRA", .abs, 3, 6, false⟩
  | .bvs => ⟨0x70, "BVS", .rel, 2, 2, true⟩
  | .adcIzy => ⟨0x71, "ADC", .izy, 2, 5, true⟩
  | .nop72 => ⟨0x72, "NOP", .imp, 1, 2, false⟩
  | .rraIzy => ⟨0x73, "RRA", .izy, 2, 8, false⟩
  | .nop74 => ⟨0x74, "NOP", .zpx, 2, 4, false⟩
  | .adcZpx => ⟨0x75, "ADC", .zpx, 2, 4, true⟩
  | .rorZpx => ⟨0x76, "ROR", .zpx, 2, 6, true⟩
  | .rraZpx => ⟨0x77, "RRA", .zpx, 2, 6, false⟩
  | .sei => ⟨0x78, "SEI", .imp, 1, 2, true⟩
  | .adcAby => ⟨0x79, "ADC", .aby, 3, 4, true⟩
  | .nop7A => ⟨0x7A, "NOP", .imp, 1, 2, false⟩
  | .rraAby => ⟨0x7B, "RRA", .aby, 3, 7, false⟩
  | .nop7C => ⟨0x7C, "NOP", .abx, 3, 4, false⟩
  | .adcAbx => ⟨0x7D, "ADC", .abx, 3, 4, true⟩
  | .rorAbx => ⟨0x7E, "ROR", .abx, 3, 7, true⟩
  | .rraAbx => ⟨0x7F, "RRA", .abx, 3, 7, false⟩
  | .nop80 => ⟨0x80, "NOP", .imm, 2, 2, false⟩
  | .staIzx => ⟨0x81, "STA", .izx, 2, 6, true⟩
  | .nop82 => ⟨0x82, "NOP", .imm, 2, 2, false⟩
  | .saxIzx => ⟨0x83, "SAX", .izx, 2, 6, false⟩
  | .styZp => ⟨0x84, "STY", .zp, 2, 3, true⟩
  | .staZp => ⟨0x85, "STA", .zp, 2, 3, true⟩
  | .stxZp => ⟨0x86, "STX", .zp, 2, 3, true⟩
  | .saxZp => ⟨0x87, "SAX", .zp, 2, 3, false⟩
  | .dey => ⟨0x88, "DEY", .imp, 1, 2, true⟩
  | .nop89 => ⟨0x89, "NOP", .imm, 2, 2, false⟩
  | .txa => ⟨0x8A, "TXA", .imp, 1, 2, true⟩
  | .xaaImm => ⟨0x8B, "XAA", .imm, 2, 2, false⟩
  | .styAbs => ⟨0x8C, "STY", .abs, 3, 4, true⟩
  | .staAbs => ⟨0x8D, "STA", .abs, 3, 4, true⟩
  | .stxAbs => ⟨0x8E, "STX", .abs, 3, 4, true⟩
  | .saxAbs => ⟨0x8F, "SAX", .abs, 3, 4, false⟩
  | .bcc => ⟨0x90, "BCC", .rel, 2, 2, true⟩
  | .staIzy => ⟨0x91, "STA", .izy, 2, 6, true⟩
  | .nop92 => ⟨0x92, "NOP", .imp, 1, 2, false⟩
  | .ahxIzy => ⟨0x93, "AHX", .izy, 2, 6, false⟩
  | .styZpx => ⟨0x94, "STY", .zpx, 2, 4, true⟩
  | .staZpx => ⟨0x95, "STA", .zpx, 2, 4, true⟩
  | .stxZpy => ⟨0x96, "STX", .zpy, 2, 4, true⟩
  | .saxZpy => ⟨0x97, "SAX", .zpy, 2, 4, false⟩
  | .tya => ⟨0x98, "TYA", .imp, 1, 2, true⟩
  | .staAby => ⟨0x99, "STA", .aby, 3, 5, true⟩
  | .txs => ⟨0x9A, "TXS", .imp, 1, 2, true⟩
  | .tasAby => ⟨0x9B, "TAS", .aby, 3, 5, false⟩
  | .shyAbx => ⟨0x9C, "SHY", .abx, 3, 5, false⟩
  | .staAbx => ⟨0x9D, "STA", .abx, 3, 5, true⟩
  | .shxAby => ⟨0x9E, "SHX", .aby, 3, 5, false⟩
  | .ahxAby => ⟨0x9F, "AHX", .aby, 3, 5, false⟩
  | .ldyImm => ⟨0xA0, "LDY", .imm, 2, 2, true⟩
  | .ldaIzx => ⟨0xA1, "LDA", .izx, 2, 6, true⟩
  | .ldxImm => ⟨0xA2, "LDX", .imm, 2, 2, true⟩
  | .laxIzx => ⟨0xA3, "LAX", .izx, 2, 6, false⟩
  | .ldyZp => ⟨0xA4, "LDY", .zp, 2, 3, true⟩
  | .ldaZp => ⟨0xA5, "LDA", .zp, 2, 3, true⟩
  | .ldxZp => ⟨0xA6, "LDX", .zp, 2, 3, true⟩
  | .laxZp => ⟨0xA7, "LAX", .zp, 2, 3, false⟩
  | .tay => ⟨0xA8, "TAY", .imp, 1, 2, true⟩
  | .ldaImm => ⟨0xA9, "LDA", .imm, 2, 2, true⟩
  | .tax => ⟨0xAA, "TAX", .imp, 1, 2, true⟩
  | .lxaImm => ⟨0xAB, "LXA", .imm, 2, 2, false⟩
  | .ldyAbs => ⟨0xAC, "LDY", .abs, 3, 4, true⟩
  | .ldaAbs => ⟨0xAD, "LDA", .abs, 3, 4, true⟩
  | .ldxAbs => ⟨0xAE, "LDX", .abs, 3, 4, true⟩
  | .laxAbs => ⟨0xAF, "LAX", .abs, 3, 4, false⟩
  | .bcs => ⟨0xB0, "BCS", .rel, 2, 2, true⟩
  | .ldaIzy => ⟨0xB1, "LDA", .izy, 2, 5, true⟩
  | .nopB2 => ⟨0xB2, "NOP", .imp, 1, 2, false⟩
  | .laxIzy => ⟨0xB3, "LAX", .izy, 2, 5, false⟩
  | .ldyZpx => ⟨0xB4, "LDY", .zpx, 2, 4, true⟩
  | .ldaZpx => ⟨0xB5, "LDA", .zpx, 2, 4, true⟩
  | .ldxZpy => ⟨0xB6, "LDX", .zpy, 2, 4, true⟩
  | .laxZpy => ⟨0xB7, "LAX", .zpy, 2, 4, false⟩
  | .clv => ⟨0xB8, "CLV", .imp, 1, 2, true⟩
  | .ldaAby => ⟨0xB9, "LDA", .aby, 3, 4, true⟩
  | .tsx => ⟨0xBA, "TSX", .imp, 1, 2, true⟩
  | .lasAby => ⟨0xBB, "LAS", .aby, 3, 4, false⟩
  | .ldyAbx => ⟨0xBC, "LDY", .abx, 3, 4, true⟩
  | .ldaAbx => ⟨0xBD, "LDA", .abx, 3, 4, true⟩
  | .ldxAby => ⟨0xBE, "LDX", .aby, 3, 4, true⟩
  | .laxAby => ⟨0xBF, "LAX", .aby, 3, 4, false⟩
  | .cpyImm => ⟨0xC0, "CPY", .imm, 2, 2, true⟩
  | .cmpIzx => ⟨0xC1, "CMP", .izx, 2, 6, true⟩
  | .nopC2 => ⟨0xC2, "NOP", .imm, 2, 2, false⟩
  | .dcpIzx => ⟨0xC3, "DCP", .izx, 2, 8, false⟩
  | .cpyZp => ⟨0xC4, "CPY", .zp, 2, 3, true⟩
  | .cmpZp => ⟨0xC5, "CMP", .zp, 2, 3, true⟩
  | .decZp => ⟨0xC6, "DEC", .zp, 2, 5, true⟩
  | .dcpZp => ⟨0xC7, "DCP", .zp, 2, 5, false⟩
  | .iny => ⟨0xC8, "INY", .imp, 1, 2, true⟩
  | .cmpImm => ⟨0xC9, "CMP", .imm, 2, 2, true⟩
  | .dex => ⟨0xCA, "DEX", .imp, 1, 2, true⟩
  | .axsImm => ⟨0xCB, "AXS", .imm, 2, 2, false⟩
  | .cpyAbs => ⟨0xCC, "CPY", .abs, 3, 4, true⟩
  | .cmpAbs => ⟨0xCD, "CMP", .abs, 3, 4, true⟩
  | .decAbs => ⟨0xCE, "DEC", .abs, 3, 6, true⟩
  | .dcpAbs => ⟨0xCF, "DCP", .abs, 3, 6, false⟩
  | .bne => ⟨0xD0, "BNE", .rel, 2, 2, true⟩
  | .cmpIzy => ⟨0xD1, "CMP", .izy, 2, 5, true⟩
  | .nopD2 => ⟨0xD2, "NOP", .imp, 1, 2, false⟩
  | .dcpIzy => ⟨0xD3, "DCP", .izy, 2, 8, false⟩
  | .nopD4 => ⟨0xD4, "NOP", .zpx, 2, 4, false⟩
  | .cmpZpx => ⟨0xD5, "CMP", .zpx, 2, 4, true⟩
  | .decZpx => ⟨0xD6, "DEC", .zpx, 2, 6, true⟩
  | .dcpZpx => ⟨0xD7, "DCP", .zpx, 2, 6, false⟩
  | .cld => ⟨0xD8, "CLD", .imp, 1, 2, true⟩
  | .cmpAby => ⟨0xD9, "CMP", .aby, 3, 4, true⟩
  | .nopDA => ⟨0xDA, "NOP", .imp, 1, 2, false⟩
  | .dcpAby => ⟨0xDB, "DCP", .aby, 3, 7, false⟩
  | .nopDC => ⟨0xDC, "NOP", .abx, 3, 4, false⟩
  | .cmpAbx => ⟨0xDD, "CMP", .abx, 3, 4, true⟩
  | .decAbx => ⟨0xDE, "DEC", .abx, 3, 7, true⟩
  | .dcpAbx => ⟨0xDF, "DCP", .abx, 3, 7, false⟩
  | .cpxImm => ⟨0xE0, "CPX", .imm, 2, 2, true⟩
  | .sbcIzx => ⟨0xE1, "SBC", .izx, 2, 6, true⟩
  | .nopE2 => ⟨0xE2, "NOP", .imm, 2, 2, false⟩
  | .isbIzx => ⟨0xE3, "ISB", .izx, 2, 8, false⟩
  | .cpxZp => ⟨0xE4, "CPX", .zp, 2, 3, true⟩
  | .sbcZp => ⟨0xE5, "SBC", .zp, 2, 3, true⟩
  | .incZp => ⟨0xE6, "INC", .zp, 2, 5, true⟩
  | .isbZp => ⟨0xE7, "ISB", .zp, 2, 5, false⟩
  | .inx => ⟨0xE8, "INX", .imp, 1, 2, true⟩
  | .sbcImm => ⟨0xE9, "SBC", .imm, 2, 2, true⟩
  | .nopEA => ⟨0xEA, "NOP", .imp, 1, 2, true⟩
  | .sbcEB => ⟨0xEB, "SBC", .imm, 2, 2, false⟩
  | .cpxAbs => ⟨0xEC, "CPX", .abs, 3, 4, true⟩
  | .sbcAbs => ⟨0xED, "SBC", .abs, 3, 4, true⟩
  | .incAbs => ⟨0xEE, "INC", .abs, 3, 6, true⟩
  | .isbAbs => ⟨0xEF, "ISB", .abs, 3, 6, false⟩
  | .beq => ⟨0xF0, "BEQ", .rel, 2, 2, true⟩
  | .sbcIzy => ⟨0xF1, "SBC", .izy, 2, 5, true⟩
  | .nopF2 => ⟨0xF2, "NOP", .imp, 1, 2, false⟩
  | .isbIzy => ⟨0xF3, "ISB", .izy, 2, 8, false⟩
  | .nopF4 => ⟨0xF4, "NOP", .zpx, 2, 4, false⟩
  | .sbcZpx => ⟨0xF5, "SBC", .zpx, 2, 4, true⟩
  | .incZpx => ⟨0xF6, "INC", .zpx, 2, 6, true⟩
  | .isbZpx => ⟨0xF7, "ISB", .zpx, 2, 6, false⟩
  | .sed => ⟨0xF8, "SED", .imp, 1, 2, true⟩
  | .sbcAby => ⟨0xF9, "SBC", .aby, 3, 4, true⟩
  | .nopFA => ⟨0xFA, "NOP", .imp, 1, 2, false⟩
  | .isbAby => ⟨0xFB, "ISB", .aby, 3, 7, false⟩
  | .nopFC => ⟨0xFC, "NOP", .abx, 3, 4, false⟩
  | .sbcAbx => ⟨0xFD, "SBC", .abx, 3, 4, true⟩
  | .incAbx => ⟨0xFE, "INC", .abx, 3, 7, true⟩
  | .isbAbx => ⟨0xFF, "ISB", .abx, 3, 7, false⟩

/-- The instruction's length in bytes, opcode included (30_encoding.md R130). -/
def Instr.len (i : Instr) : Nat := i.desc.len

/-- The base cycle cost charged for the instruction (40_cpu_step_addressing.md R164). -/
def Instr.cycles (i : Instr) : Nat := i.desc.cycles

/-- The length that a mode's layout gives an instruction: L1, L2 or L3 (30_encoding.md R131, R132). -/
def Mode.len : Mode → Nat
  | .imp | .acc => 1
  | .imm | .zp | .zpx | .zpy | .izx | .izy | .rel => 2
  | .abs | .abx | .aby | .ind => 3

/-- The instructions of opcodes 0x00 to 0x0F (30_encoding.md R134). -/
def opRow0 : List Instr :=
  [.brk, .oraIzx, .nop02, .sloIzx, .nop04, .oraZp, .aslZp, .sloZp,
   .php, .oraImm, .aslAcc, .anc0B, .nop0C, .oraAbs, .aslAbs, .sloAbs]

/-- The instructions of opcodes 0x10 to 0x1F (30_encoding.md R134). -/
def opRow1 : List Instr :=
  [.bpl, .oraIzy, .nop12, .sloIzy, .nop14, .oraZpx, .aslZpx, .sloZpx,
   .clc, .oraAby, .nop1A, .sloAby, .nop1C, .oraAbx, .aslAbx, .sloAbx]

/-- The instructions of opcodes 0x20 to 0x2F (30_encoding.md R134). -/
def opRow2 : List Instr :=
  [.jsr, .andIzx, .nop22, .rlaIzx, .bitZp, .andZp, .rolZp, .rlaZp,
   .plp, .andImm, .rolAcc, .anc2B, .bitAbs, .andAbs, .rolAbs, .rlaAbs]

/-- The instructions of opcodes 0x30 to 0x3F (30_encoding.md R134). -/
def opRow3 : List Instr :=
  [.bmi, .andIzy, .nop32, .rlaIzy, .nop34, .andZpx, .rolZpx, .rlaZpx,
   .sec, .andAby, .nop3A, .rlaAby, .nop3C, .andAbx, .rolAbx, .rlaAbx]

/-- The instructions of opcodes 0x40 to 0x4F (30_encoding.md R134). -/
def opRow4 : List Instr :=
  [.rti, .eorIzx, .nop42, .sreIzx, .nop44, .eorZp, .lsrZp, .sreZp,
   .pha, .eorImm, .lsrAcc, .alrImm, .jmpAbs, .eorAbs, .lsrAbs, .sreAbs]

/-- The instructions of opcodes 0x50 to 0x5F (30_encoding.md R134). -/
def opRow5 : List Instr :=
  [.bvc, .eorIzy, .nop52, .sreIzy, .nop54, .eorZpx, .lsrZpx, .sreZpx,
   .cli, .eorAby, .nop5A, .sreAby, .nop5C, .eorAbx, .lsrAbx, .sreAbx]

/-- The instructions of opcodes 0x60 to 0x6F (30_encoding.md R134). -/
def opRow6 : List Instr :=
  [.rts, .adcIzx, .nop62, .rraIzx, .nop64, .adcZp, .rorZp, .rraZp,
   .pla, .adcImm, .rorAcc, .arrImm, .jmpInd, .adcAbs, .rorAbs, .rraAbs]

/-- The instructions of opcodes 0x70 to 0x7F (30_encoding.md R134). -/
def opRow7 : List Instr :=
  [.bvs, .adcIzy, .nop72, .rraIzy, .nop74, .adcZpx, .rorZpx, .rraZpx,
   .sei, .adcAby, .nop7A, .rraAby, .nop7C, .adcAbx, .rorAbx, .rraAbx]

/-- The instructions of opcodes 0x80 to 0x8F (30_encoding.md R134). -/
def opRow8 : List Instr :=
  [.nop80, .staIzx, .nop82, .saxIzx, .styZp, .staZp, .stxZp, .saxZp,
   .dey, .nop89, .txa, .xaaImm, .styAbs, .staAbs, .stxAbs, .saxAbs]

/-- The instructions of opcodes 0x90 to 0x9F (30_encoding.md R134). -/
def opRow9 : List Instr :=
  [.bcc, .staIzy, .nop92, .ahxIzy, .styZpx, .staZpx, .stxZpy, .saxZpy,
   .tya, .staAby, .txs, .tasAby, .shyAbx, .staAbx, .shxAby, .ahxAby]

/-- The instructions of opcodes 0xA0 to 0xAF (30_encoding.md R134). -/
def opRowA : List Instr :=
  [.ldyImm, .ldaIzx, .ldxImm, .laxIzx, .ldyZp, .ldaZp, .ldxZp, .laxZp,
   .tay, .ldaImm, .tax, .lxaImm, .ldyAbs, .ldaAbs, .ldxAbs, .laxAbs]

/-- The instructions of opcodes 0xB0 to 0xBF (30_encoding.md R134). -/
def opRowB : List Instr :=
  [.bcs, .ldaIzy, .nopB2, .laxIzy, .ldyZpx, .ldaZpx, .ldxZpy, .laxZpy,
   .clv, .ldaAby, .tsx, .lasAby, .ldyAbx, .ldaAbx, .ldxAby, .laxAby]

/-- The instructions of opcodes 0xC0 to 0xCF (30_encoding.md R134). -/
def opRowC : List Instr :=
  [.cpyImm, .cmpIzx, .nopC2, .dcpIzx, .cpyZp, .cmpZp, .decZp, .dcpZp,
   .iny, .cmpImm, .dex, .axsImm, .cpyAbs, .cmpAbs, .decAbs, .dcpAbs]

/-- The instructions of opcodes 0xD0 to 0xDF (30_encoding.md R134). -/
def opRowD : List Instr :=
  [.bne, .cmpIzy, .nopD2, .dcpIzy, .nopD4, .cmpZpx, .decZpx, .dcpZpx,
   .cld, .cmpAby, .nopDA, .dcpAby, .nopDC, .cmpAbx, .decAbx, .dcpAbx]

/-- The instructions of opcodes 0xE0 to 0xEF (30_encoding.md R134). -/
def opRowE : List Instr :=
  [.cpxImm, .sbcIzx, .nopE2, .isbIzx, .cpxZp, .sbcZp, .incZp, .isbZp,
   .inx, .sbcImm, .nopEA, .sbcEB, .cpxAbs, .sbcAbs, .incAbs, .isbAbs]

/-- The instructions of opcodes 0xF0 to 0xFF (30_encoding.md R134). -/
def opRowF : List Instr :=
  [.beq, .sbcIzy, .nopF2, .isbIzy, .nopF4, .sbcZpx, .incZpx, .isbZpx,
   .sed, .sbcAby, .nopFA, .isbAby, .nopFC, .sbcAbx, .incAbx, .isbAbx]

/-- OPTABLE: the instruction of every opcode byte, in the bytes' order (30_encoding.md R134). -/
def opTable : List Instr :=
  opRow0 ++ opRow1 ++ opRow2 ++ opRow3 ++ opRow4 ++ opRow5 ++ opRow6 ++ opRow7 ++
  opRow8 ++ opRow9 ++ opRowA ++ opRowB ++ opRowC ++ opRowD ++ opRowE ++ opRowF

/-- Look up the opcode byte in OPTABLE (40_cpu_step_addressing.md R162); `none` would be a DecodeError. -/
def decodeOpcode (b : Byte) : Option Instr := opTable[b.toNat]?

end Sys2Proof
end

