-- ==== Sys2Proof/WellFormed.lean ====
section
/-! DEFINITION. An instruction as it lies in memory: its opcode and its operand bytes, and the one check on it: the opcode
alone determines how many operand bytes there are (30_encoding.md R130, R131). -/
namespace Sys2Proof

/-- A whole instruction: the opcode's instruction and its operand bytes at ascending addresses. Byte 1 is `d8` or `a16[7:0]`,
byte 2 is `a16[15:8]` (30_encoding.md R131). -/
structure Code where
  op       : Instr
  operands : List Byte
  deriving DecidableEq, Repr

/-- The operand bytes are exactly those the opcode's length asks for (30_encoding.md R130). -/
def Code.WellFormed (c : Code) : Bool := decide (c.operands.length + 1 = c.op.len)

end Sys2Proof
end

