-- ==== Sys2Proof/Decode.lean ====
section
/-! DEFINITION. Decoding: bytes to an instruction with its operand bytes, total on any bytes, rejecting by name; and the
encoder, written from the same table (30_encoding.md R130 to R134). -/
namespace Sys2Proof

/-- Why bytes do not decode: there is no byte, the opcode has no table entry (60_exceptions.md R452; unreachable,
30_encoding.md R137), or operand bytes are missing. -/
inductive DecodeReject where
  | empty
  | unknownOpcode (op : Byte)
  | truncated (op : Byte)
  deriving DecidableEq, Repr

/-- "A decoder reads byte 0, looks it up in OPTABLE, and knows the length, the addressing mode and the operation"
(30_encoding.md R130). The answer is the instruction and the bytes after it. -/
def decode : List Byte → Except DecodeReject (Code × List Byte)
  | [] => .error .empty
  | b :: rest =>
    match decodeOpcode b with
    | none => .error (.unknownOpcode b)
    | some i =>
      if rest.length + 1 < i.len then .error (.truncated b)
      else .ok (⟨i, rest.take (i.len - 1)⟩, rest.drop (i.len - 1))

/-- The bytes of an instruction: byte 0 is its opcode, then its operand bytes (30_encoding.md R131). -/
def encode (c : Code) : List Byte := c.op.desc.opcode :: c.operands

/-- The bytes of a number, least significant byte first: the first byte of the instruction is bits 7 to 0. -/
def bytesOfNat : Nat → Nat → List Byte
  | 0, _ => []
  | k + 1, w => BitVec.ofNat 8 w :: bytesOfNat k (w / 256)

/-- The first three bytes (the longest instruction, 30_encoding.md R130) of an instruction whose `nbits` low bits are those of
`w` and whose other bits are 0. -/
def tableBytes (nbits w : Nat) : List Byte := bytesOfNat 3 (w % 2 ^ nbits)

/-- The instruction the decoder reads from the table word `w` of `nbits` bits. -/
def decodeTableWord (nbits w : Nat) : Option Instr :=
  match decode (tableBytes nbits w) with
  | .ok (c, _) => some c.op
  | .error _ => none

end Sys2Proof
end

