-- ==== Sys2Proof/Machine/Bits.lean ====
section
/-! DEFINITION. Bit fields, sign extension and byte order (00_scope.md R8): the helpers that every other file uses. -/
namespace Sys2Proof

/-- `hi(w) = w[15:8]` (00_scope.md R8). -/
def hiByte (w : Addr) : Byte := w.extractLsb' 8 8

/-- `lo(w) = w[7:0]` (00_scope.md R8). -/
def loByte (w : Addr) : Byte := w.extractLsb' 0 8

/-- `zext_16` (00_scope.md R8). -/
def zext16 (b : Byte) : Addr := b.setWidth 16

/-- The little-endian word of a low and a high byte, `lo | (hi << 8)` (20_memory.md R95, R100). -/
def wordOf (lo hi : Byte) : Addr := zext16 lo ||| (zext16 hi <<< 8)

/-- `sext_16` (00_scope.md R8). -/
def sext16 (b : Byte) : Addr := b.signExtend 16

/-- Bit `i` of `v` (00_scope.md R8). -/
def bitOf (v : Byte) (i : Nat) : Bool := v.getLsbD i

/-- `v` with bit `i` set to `on`, every other bit kept. -/
def putBit (v : Byte) (i : Nat) (on : Bool) : Byte :=
  if on then v ||| (1#8 <<< i) else v &&& ~~~(1#8 <<< i)

/-- The CPU address of a stack offset: `0x0100 + zext_16(SP)` (10_state.md R23, 40_cpu_step_addressing.md R175). -/
def stackAddr (sp : Byte) : Addr := 0x0100#16 + zext16 sp

end Sys2Proof
end

