-- ==== Sys2Proof/Machine/Cartridge.lean ====
section
/-! DEFINITION. Reading the cartridge: PRG-ROM by CPU address (20_memory.md R86), CHR-ROM by PPU address
(47_ppu_registers.md R373), the vectors (20_memory.md R88); and loading a cartridge: the iNES image (49_devices.md R435) and
which images the spec admits (R436). -/
namespace Sys2Proof

/-- The PRG index of a CPU address in 0x8000 to 0xFFFF: "if PRG-ROM is exactly 16KB, address is reduced modulo 0x4000"
(20_memory.md R86). -/
def prgIndex (size : PrgSize) (a : Addr) : Nat :=
  match size with
  | .k16 => (a.toNat - 0x8000) % 0x4000
  | .k32 => a.toNat - 0x8000

/-- `PrgRead(addr)` for 0x8000 ≤ addr ≤ 0xFFFF (20_memory.md R86). -/
def prgRead (c : Config) (a : Addr) : Byte := c.prg.read (prgIndex c.prgSize a)

/-- The little-endian word of PRG-ROM at a vector address (20_memory.md R88, R95). -/
def prgVector (c : Config) (a : Addr) : Addr := wordOf (prgRead c a) (prgRead c (a + 1))

/-- `CHR[i]` (10_state.md R44, 47_ppu_registers.md R373). -/
def chrRead (c : Config) (i : Nat) : Byte := c.chr.read i

/-- Why an image is malformed or unsupported (60_exceptions.md R451). -/
inductive FormatReason where
  | magic | nes2 | length
  deriving DecidableEq, Repr

/-- The mirroring that a header names; FOUR_SCREEN decodes but is not admitted (49_devices.md R435, R436). -/
inductive HeaderMirroring where
  | vertical | horizontal | fourScreen
  deriving DecidableEq, Repr

/-- What an iNES image decodes to (49_devices.md R435). -/
structure Image where
  prg       : List Byte
  chr       : List Byte
  mapper    : Byte
  mirroring : HeaderMirroring
  deriving DecidableEq, Repr

/-- Header byte `k`; a byte the image does not have counts as zero (DESIGN CHOICE, notes/assumptions/11.md). -/
def headerByte (img : List Byte) (k : Nat) : Byte := img.getD k 0

/-- The mapper id: low nibble from the high nibble of byte 6, high nibble from the high nibble of byte 7
(49_devices.md R435). -/
def headerMapper (img : List Byte) : Byte :=
  (headerByte img 7 &&& 0xF0#8) ||| (headerByte img 6 >>> 4)

/-- "FOUR_SCREEN if h[6] bit 3 is 1; otherwise VERTICAL if h[6] bit 0 is 1; otherwise HORIZONTAL" (49_devices.md R435). -/
def headerMirroring (img : List Byte) : HeaderMirroring :=
  if bitOf (headerByte img 6) 3 then .fourScreen
  else if bitOf (headerByte img 6) 0 then .vertical
  else .horizontal

/-- PRG size in bytes: h[4] × 16384 (49_devices.md R435). -/
def headerPrgBytes (img : List Byte) : Nat := (headerByte img 4).toNat * 16384

/-- CHR size in bytes: h[5] × 8192 (49_devices.md R435). -/
def headerChrBytes (img : List Byte) : Nat := (headerByte img 5).toNat * 8192

/-- Where PRG starts: offset 16, plus 512 with a trainer (49_devices.md R435). -/
def headerPrgOffset (img : List Byte) : Nat := if bitOf (headerByte img 6) 2 then 528 else 16

/-- Decode an iNES image (49_devices.md R435). The checks run in the order magic, NES 2.0, length (DESIGN CHOICE,
notes/assumptions/11.md: the spec gives no order). -/
def parseINes (img : List Byte) : Except FormatReason Image :=
  if img.take 4 ≠ [0x4E, 0x45, 0x53, 0x1A] then .error .magic
  else if (headerByte img 7 >>> 2) &&& 3#8 ≠ 0#8 then .error .nes2
  else if img.length < headerPrgOffset img + headerPrgBytes img + headerChrBytes img then .error .length
  else .ok
    { prg := (img.drop (headerPrgOffset img)).take (headerPrgBytes img)
      chr := (img.drop (headerPrgOffset img + headerPrgBytes img)).take (headerChrBytes img)
      mapper := headerMapper img
      mirroring := headerMirroring img }

/-- The PRG size of an admitted image: 0x4000 or 0x8000 bytes (49_devices.md R436). -/
def admittedPrgSize (n : Nat) : Option PrgSize :=
  if n = 0x4000 then some .k16 else if n = 0x8000 then some .k32 else none

/-- The mirroring of an admitted image (49_devices.md R436, 47_ppu_registers.md R376). -/
def admittedMirroring : HeaderMirroring → Option Mirroring
  | .vertical => some .vertical
  | .horizontal => some .horizontal
  | .fourScreen => none

/-- The configuration of an image the spec admits: mapper id 0, PRG of 16 KB or 32 KB, CHR of 8 KB, VERTICAL or
HORIZONTAL mirroring (49_devices.md R436); `none` for every other image. -/
def admitImage (im : Image) (strict : Bool) : Option Config :=
  match admittedPrgSize im.prg.length, admittedMirroring im.mirroring with
  | some size, some mir =>
    if im.mapper = 0 ∧ im.chr.length = 0x2000 then
      some { prg := Memory.ofBytes im.prg, prgSize := size, chr := Memory.ofBytes im.chr,
             mapper := im.mapper, mirroring := mir, strict := strict }
    else none
  | _, _ => none

end Sys2Proof
end

