-- ==== Sys2Proof/Machine/State.lean ====
section
/-! DEFINITION. The state of the machine as plain data, everything 10_state.md lists; the events the host sees
(00_scope.md R12); the reasons a step stops; and the state after power-on. -/
namespace Sys2Proof.Machine

/-- The PPU's state (10_state.md R32 to R43). CHR-ROM is configuration (R44). -/
structure Ppu where
  /-- Control (R32). -/
  ctrl        : Byte
  /-- Mask (R33). -/
  mask        : Byte
  /-- Status (R34). -/
  status      : Byte
  /-- OAM pointer (R35). -/
  oamAddr     : Byte
  /-- `ppu.addr.value` (R36). -/
  addrValue   : PpuAddr
  /-- `ppu.addr.hi_next` (R36). -/
  addrHiNext  : Bool
  /-- `ppu.scroll.x` (R37). -/
  scrollX     : Byte
  /-- `ppu.scroll.y` (R37). -/
  scrollY     : Byte
  /-- `ppu.scroll.y_next` (R37). -/
  scrollYNext : Bool
  /-- The data-port read buffer (R38). -/
  dataBuf     : Byte
  /-- The scanline, 0 to 261 between ticks (R39). -/
  scanline    : Nat
  /-- The cycle, 0 to 340 between ticks (R39). -/
  cycle       : Nat
  /-- The pending-NMI flag (R40). -/
  nmiPending  : Bool
  /-- Nametable RAM, 2048 bytes (R41). -/
  vram        : Memory
  /-- Palette RAM, 32 bytes (R42). -/
  palette     : Memory
  /-- Sprite memory, 256 bytes (R43). -/
  oam         : Memory
  deriving DecidableEq, Repr

/-- A joypad (10_state.md R45). -/
structure Joypad where
  /-- Bit 0 A, 1 B, 2 SELECT, 3 START, 4 UP, 5 DOWN, 6 LEFT, 7 RIGHT. -/
  buttons : Byte
  strobe  : Bool
  /-- 0 to 8; 8 stands for every value above 7. -/
  index   : Nat
  deriving DecidableEq, Repr

/-- The three kinds of InvalidAccess (60_exceptions.md R453). -/
inductive InvalidKind where
  | writeStatus | writeRom | readWriteOnly
  deriving DecidableEq, Repr

/-- What a diagnostic record is about: an InvalidAccess in a permissive machine (60_exceptions.md R453), or one of the
conditions that are never fatal (R454). -/
inductive LogKind where
  | invalid (k : InvalidKind)
  | unmapped | ppuUnused | chrWrite
  deriving DecidableEq, Repr

/-- What the machine tells the host (00_scope.md R12). No rule reads it back. -/
inductive Event where
  /-- `emit OnFrame` (20_memory.md R110). -/
  | onFrame
  /-- `emit Trace(A, X, Y, SP, P, PC, opcode bytes, mnemonic)` (40_cpu_step_addressing.md R164); the mnemonic is that of
  the instruction. -/
  | trace (a x y sp p : Byte) (pc : Addr) (bytes : List Byte) (op : Instr)
  /-- `log(kind, addr)`; a PPU address is given as a 16-bit number (60_exceptions.md R454). -/
  | log (kind : LogKind) (addr : Addr)
  deriving DecidableEq, Repr

/-- An InvalidAccess with its CPU address before mirroring (60_exceptions.md R453). -/
structure Stop where
  kind : InvalidKind
  addr : Addr
  deriving DecidableEq, Repr

/-- The whole machine. -/
structure State where
  /-- The accumulator (10_state.md R20). -/
  a      : Byte
  /-- Index register X (R21). -/
  x      : Byte
  /-- Index register Y (R22). -/
  y      : Byte
  /-- The stack pointer (R23). -/
  sp     : Byte
  /-- The program counter (R24). -/
  pc     : Addr
  /-- The status register (R25, R26). -/
  p      : Byte
  /-- The machine has stopped at BRK (R28). -/
  halted : Bool
  /-- CPU RAM, 2048 bytes (R30). -/
  ram    : Memory
  /-- CPU cycles ticked (R31). -/
  cycles : Nat
  /-- The PPU (R32 to R43). -/
  ppu    : Ppu
  /-- The joypad read at 0x4016 (R45). -/
  joy0   : Joypad
  /-- The joypad read at 0x4017 (R45). -/
  joy1   : Joypad
  /-- The configuration (00_scope.md R7, 10_state.md R47); no step changes it. -/
  cfg    : Config
  /-- The host's button sets still to come, one pair per OnFrame (49_devices.md R425; notes/assumptions/6.md). -/
  input  : List (Byte × Byte)
  /-- What the host has been told, newest first (00_scope.md R12; notes/assumptions/7.md). -/
  events : List Event
  /-- The MODEL's own field: the first InvalidAccess of a strict machine inside the step being computed, which ends it in a
  fault (60_exceptions.md R455; notes/assumptions/3.md). It is `none` in every state a step answers. -/
  stop   : Option Stop
  deriving DecidableEq, Repr

/-- Why the machine stops. -/
inductive Fault where
  /-- Raised by `step` on a state that BRK halted: "after which the CPU takes no further step" (10_state.md R28). Safe. -/
  | halted
  /-- Raised by `step` for an opcode that OPTABLE lacks (60_exceptions.md R452); unreachable. Safe. -/
  | decodeError (op : Byte)
  /-- Raised by a meaning, or by the opcode fetch, whose Bus access is an InvalidAccess, when `STRICT` is true
  (60_exceptions.md R453, R455). Safe: the spec says only that the machine halts. -/
  | invalidAccess (kind : InvalidKind) (addr : Addr)
  /-- Raised by the cartridge loader `boot` only (60_exceptions.md R451). Safe: there is no machine. -/
  | formatError (reason : FormatReason)
  deriving DecidableEq, Repr

/-- Why the model gives no answer. -/
inductive Refusal where
  /-- An instruction that has no meaning yet, by its mnemonic; no arm of `exec` answers it. Safe. -/
  | notModelled (mnemonic : String)
  /-- Raised by the cartridge loader `boot` only, for an image that decodes but that the spec does not admit
  (49_devices.md R436, 47_ppu_registers.md R376). Safe. -/
  | cartridgeNotAdmitted
  deriving DecidableEq, Repr

/-- The PPU at power-on around given memories (10_state.md R50). -/
def Ppu.powerOn (vram palette oam : Memory) : Ppu :=
  { ctrl := 0, mask := 0, status := 0, oamAddr := 0, addrValue := 0, addrHiNext := true,
    scrollX := 0, scrollY := 0, scrollYNext := false, dataBuf := 0, scanline := 0, cycle := 0,
    nmiPending := false, vram := vram, palette := palette, oam := oam }

/-- A joypad at power-on (10_state.md R45, R50). -/
def Joypad.powerOn : Joypad := { buttons := 0, strobe := false, index := 0 }

/-- The machine right after power-on (10_state.md R50, 70_reset_and_hazards.md R490, R491), with a blank cartridge
(notes/assumptions/5.md), memories of zeros (notes/assumptions/4.md) and no host input (notes/assumptions/6.md). The
power-on of any cartridge with any memory contents is `powerOn` (Machine/Reset.lean). -/
def State.reset : State :=
  { a := 0x00, x := 0x00, y := 0x00, sp := 0xFD, pc := prgVector Config.blank 0xFFFC, p := 0x24, halted := false,
    ram := [], cycles := 0, ppu := Ppu.powerOn [] [] [], joy0 := Joypad.powerOn, joy1 := Joypad.powerOn,
    cfg := Config.blank, input := [], events := [], stop := none }

end Sys2Proof.Machine
end

