-- ==== Sys2Proof/Machine/Flags.lean ====
section
/-! DEFINITION. The status register P and every flag computation: the flag bits (10_state.md R26), `setZN` (00_scope.md R11),
the cores `AddCore` and `CmpCore` (42_arith_logic.md R210, R216) and the four shift value functions (43_shift_rotate.md R240). -/
namespace Sys2Proof.Machine

/-- The flags of P by their bit numbers (10_state.md R26). -/
def bitC : Nat := 0
/-- ZERO (10_state.md R26). -/
def bitZ : Nat := 1
/-- INTERRUPT_DISABLE (10_state.md R26). -/
def bitI : Nat := 2
/-- DECIMAL (10_state.md R26). -/
def bitD : Nat := 3
/-- BREAK (10_state.md R26). -/
def bitB : Nat := 4
/-- BREAK2 (10_state.md R26). -/
def bitU : Nat := 5
/-- OVERFLOW (10_state.md R26). -/
def bitV : Nat := 6
/-- NEGATIVE (10_state.md R26). -/
def bitN : Nat := 7

/-- P.C -/
def State.flagC (s : State) : Bool := bitOf s.p bitC
/-- P.Z -/
def State.flagZ (s : State) : Bool := bitOf s.p bitZ
/-- P.I -/
def State.flagI (s : State) : Bool := bitOf s.p bitI
/-- P.D -/
def State.flagD (s : State) : Bool := bitOf s.p bitD
/-- P.B -/
def State.flagB (s : State) : Bool := bitOf s.p bitB
/-- P.U -/
def State.flagU (s : State) : Bool := bitOf s.p bitU
/-- P.V -/
def State.flagV (s : State) : Bool := bitOf s.p bitV
/-- P.N -/
def State.flagN (s : State) : Bool := bitOf s.p bitN

/-- `A <- v` -/
def State.setA (v : Byte) (s : State) : State := { s with a := v }
/-- `X <- v` -/
def State.setX (v : Byte) (s : State) : State := { s with x := v }
/-- `Y <- v` -/
def State.setY (v : Byte) (s : State) : State := { s with y := v }
/-- `SP <- v` -/
def State.setSp (v : Byte) (s : State) : State := { s with sp := v }
/-- `PC <- v` -/
def State.setPc (v : Addr) (s : State) : State := { s with pc := v }
/-- `P <- v` -/
def State.setP (v : Byte) (s : State) : State := { s with p := v }

/-- P with one flag bit replaced, every other bit kept. -/
def State.setFlag (i : Nat) (on : Bool) (s : State) : State := s.setP (putBit s.p i on)

/-- P with Z and N taken from a value: `P.Z <- (v == 0); P.N <- v[7]` (00_scope.md R11). -/
def znOf (v p : Byte) : Byte := putBit (putBit p bitZ (decide (v = 0))) bitN (bitOf v 7)

/-- `setZN(v)` (00_scope.md R11). -/
def State.setZN (v : Byte) (s : State) : State := s.setP (znOf v s.p)

/-- The 9-bit sum of `AddCore`, as a number 0 to 0x1FF (42_arith_logic.md R210). -/
def addSum (a m : Byte) (c : Bool) : Nat := a.toNat + m.toNat + c.toNat

/-- The result of `AddCore`: `u8(sum)` (42_arith_logic.md R210). -/
def addResult (a m : Byte) (c : Bool) : Byte := BitVec.ofNat 8 (addSum a m c)

/-- The carry of `AddCore`: `sum > 0xFF` (42_arith_logic.md R210). -/
def addCarry (a m : Byte) (c : Bool) : Bool := decide (addSum a m c > 0xFF)

/-- The "two's-complement overflow test `(data^result) & (result^A) & 0x80`" (42_arith_logic.md R210). -/
def addOverflow (a m : Byte) (c : Bool) : Bool :=
  decide (((m ^^^ addResult a m c) &&& (addResult a m c ^^^ a) &&& 0x80#8) ≠ 0#8)

/-- `AddCore(m)`, the shared add-with-carry micro-operation (42_arith_logic.md R210). -/
def addCore (m : Byte) (s : State) : State :=
  let r := addResult s.a m s.flagC
  (((s.setFlag bitC (addCarry s.a m s.flagC)).setFlag bitV (addOverflow s.a m s.flagC)).setA r).setZN r

/-- `CmpCore(r, m)`: `P.C <- (m <= r); setZN(u8(r - m))` (42_arith_logic.md R216). -/
def cmpCore (r m : Byte) (s : State) : State :=
  (s.setFlag bitC (decide (m.toNat ≤ r.toNat))).setZN (r - m)

/-- `A <- A & m; setZN(A)` (42_arith_logic.md R213). -/
def andCore (m : Byte) (s : State) : State := (s.setA (s.a &&& m)).setZN (s.a &&& m)

/-- `A <- A | m; setZN(A)` (42_arith_logic.md R214). -/
def oraCore (m : Byte) (s : State) : State := (s.setA (s.a ||| m)).setZN (s.a ||| m)

/-- `A <- A ^ m; setZN(A)` (42_arith_logic.md R215). -/
def eorCore (m : Byte) (s : State) : State := (s.setA (s.a ^^^ m)).setZN (s.a ^^^ m)

/-- `P.Z <- ((A & m) == 0); P.N <- m[7]; P.V <- m[6]` (42_arith_logic.md R220). -/
def bitCore (m : Byte) (s : State) : State :=
  ((s.setFlag bitZ (decide (s.a &&& m = 0))).setFlag bitN (bitOf m 7)).setFlag bitV (bitOf m 6)

/-- `AslVal`, with the carry-in that it ignores (43_shift_rotate.md R240): result and carry out. -/
def aslVal (_cin : Bool) (v : Byte) : Byte × Bool := (v <<< 1, bitOf v 7)

/-- `LsrVal`, with the carry-in that it ignores (43_shift_rotate.md R240). -/
def lsrVal (_cin : Bool) (v : Byte) : Byte × Bool := (v >>> 1, bitOf v 0)

/-- `RolVal`: the carry-in becomes bit 0 (43_shift_rotate.md R240). -/
def rolVal (cin : Bool) (v : Byte) : Byte × Bool := (putBit (v <<< 1) 0 cin, bitOf v 7)

/-- `RorVal`: the carry-in becomes bit 7 (43_shift_rotate.md R240). -/
def rorVal (cin : Bool) (v : Byte) : Byte × Bool := (putBit (v >>> 1) 7 cin, bitOf v 0)

/-- `P.C <- c; setZN(r)`: the flags of a shift (43_shift_rotate.md R240). -/
def shiftFlags (r : Byte × Bool) (s : State) : State := (s.setFlag bitC r.2).setZN r.1

end Sys2Proof.Machine
end

