-- ==== Sys2Proof/Machine/Joypads.lean ====
section
/-! DEFINITION. The joypads (49_devices.md R420 to R424). -/
namespace Sys2Proof.Machine

/-- `JoyStrobe(v)` for one joypad (49_devices.md R421). -/
def Joypad.strobeWrite (v : Byte) (j : Joypad) : Joypad :=
  { j with strobe := bitOf v 0, index := if bitOf v 0 then 0 else j.index }

/-- `JoyRead(k)` for one joypad (49_devices.md R422): the byte 0x00 or 0x01. -/
def Joypad.read (j : Joypad) : Byte × Joypad :=
  if j.index > 7 then (0x01, j)
  else ((j.buttons >>> j.index) &&& 1#8, if j.strobe then j else { j with index := j.index + 1 })

/-- `set_button`, the host's operation: one bit of the set, strobe and index untouched (49_devices.md R424). -/
def Joypad.setButton (button : Fin 8) (pressed : Bool) (j : Joypad) : Joypad :=
  { j with buttons := putBit j.buttons button.val pressed }

end Sys2Proof.Machine
end

