-- ==== Sys2Proof/Machine/Ppu.lean ====
section
/-! DEFINITION. The PPU: its clock (47_ppu_registers.md R351 to R353), the register operations that need no cartridge and no
log (R360 to R366, R380 to R382), and its address space (R370 to R377). -/
namespace Sys2Proof.Machine

/-- `ppu.ctrl.GENERATE_NMI` (10_state.md R32). -/
def Ppu.generateNmi (p : Ppu) : Bool := bitOf p.ctrl 7
/-- `ppu.ctrl.VRAM_ADD_INCREMENT` (10_state.md R32). -/
def Ppu.addBig (p : Ppu) : Bool := bitOf p.ctrl 2
/-- `ppu.ctrl.BACKGROUND_PATTERN_ADDR` (10_state.md R32). -/
def Ppu.bgPattern (p : Ppu) : Bool := bitOf p.ctrl 4
/-- `ppu.ctrl.SPRITE_PATTERN_ADDR` (10_state.md R32). -/
def Ppu.sprPattern (p : Ppu) : Bool := bitOf p.ctrl 3
/-- `ppu.status.VBLANK` (10_state.md R34). -/
def Ppu.vblank (p : Ppu) : Bool := bitOf p.status 7
/-- `ppu.status.SPRITE_ZERO_HIT` (10_state.md R34). -/
def Ppu.spriteZeroHit (p : Ppu) : Bool := bitOf p.status 6

/-- `Scanline241()`, start of vblank (47_ppu_registers.md R352). -/
def Ppu.scanline241 (p : Ppu) : Ppu :=
  { p with status := putBit (putBit p.status 7 true) 6 false
           nmiPending := p.nmiPending || p.generateNmi }

/-- `Scanline262()`, end of frame (47_ppu_registers.md R353). -/
def Ppu.scanline262 (p : Ppu) : Ppu :=
  { p with scanline := 0, nmiPending := false
           status := putBit (putBit p.status 6 false) 7 false }

/-- The body of `PpuTick`'s loop: the next scanline, with its event, and whether the frame completed
(47_ppu_registers.md R351). -/
def Ppu.nextScanline (p : Ppu) : Ppu × Bool :=
  let p1 := { p with cycle := p.cycle - 341, scanline := p.scanline + 1 }
  let p2 := if p1.scanline = 241 then p1.scanline241 else p1
  if p2.scanline ≥ 262 then (p2.scanline262, true) else (p2, false)

/-- `PpuTick`'s loop, `k` rounds of it. -/
def Ppu.runScanlines : Nat → Ppu → Ppu × Bool
  | 0, p => (p, false)
  | k + 1, p =>
    let r := p.nextScanline
    let t := Ppu.runScanlines k r.1
    (t.1, r.2 || t.2)

/-- `PpuTick(n)` (47_ppu_registers.md R351). The loop `while ppu.cycle >= 341` takes 341 off each round, so it runs
`cycle / 341` rounds. -/
def Ppu.tick (n : Nat) (p : Ppu) : Ppu × Bool :=
  let p1 := { p with cycle := p.cycle + n }
  Ppu.runScanlines (p1.cycle / 341) p1

/-- `PpuWriteCtrl(v)` (47_ppu_registers.md R360). -/
def Ppu.writeCtrl (v : Byte) (p : Ppu) : Ppu :=
  { p with ctrl := v
           nmiPending := p.nmiPending || (!p.generateNmi && bitOf v 7 && p.vblank) }

/-- `PpuWriteMask(v)` (47_ppu_registers.md R361). -/
def Ppu.writeMask (v : Byte) (p : Ppu) : Ppu := { p with mask := v }

/-- `PpuReadStatus()` (47_ppu_registers.md R362): the status byte as it was, VBLANK cleared, both latches reset. -/
def Ppu.readStatus (p : Ppu) : Byte × Ppu :=
  (p.status, { p with status := putBit p.status 7 false, addrHiNext := true, scrollYNext := false })

/-- `PpuWriteScroll(v)` (47_ppu_registers.md R364). -/
def Ppu.writeScroll (v : Byte) (p : Ppu) : Ppu :=
  if p.scrollYNext then { p with scrollY := v, scrollYNext := false }
  else { p with scrollX := v, scrollYNext := true }

/-- `PpuWriteAddr(v)` (47_ppu_registers.md R365): the value is 14 bits wide, so the top two bits of the high byte drop. -/
def Ppu.writeAddr (v : Byte) (p : Ppu) : Ppu :=
  if p.addrHiNext then
    { p with addrValue := (v.setWidth 14 <<< 8) ||| (p.addrValue &&& 0x00FF#14), addrHiNext := false }
  else
    { p with addrValue := (p.addrValue &&& 0x3F00#14) ||| v.setWidth 14, addrHiNext := true }

/-- The address increment of every data-port access, modulo 0x4000 (47_ppu_registers.md R366). -/
def Ppu.incAddr (p : Ppu) : Ppu :=
  { p with addrValue := p.addrValue + (if p.addBig then 32#14 else 1#14) }

/-- `PpuWriteOamAddr(v)` (47_ppu_registers.md R380). -/
def Ppu.writeOamAddr (v : Byte) (p : Ppu) : Ppu := { p with oamAddr := v }

/-- `PpuReadOamData()` (47_ppu_registers.md R381): the pointer is not changed. -/
def Ppu.readOamData (p : Ppu) : Byte := p.oam.read p.oamAddr.toNat

/-- `PpuWriteOamData(v)` (47_ppu_registers.md R382). -/
def Ppu.writeOamData (v : Byte) (p : Ppu) : Ppu :=
  { p with oam := p.oam.write p.oamAddr.toNat v, oamAddr := p.oamAddr + 1 }

/-- `VramIndex(a)` for 0x2000 ≤ a ≤ 0x2FFF (47_ppu_registers.md R374). -/
def vramIndex (m : Mirroring) (a : PpuAddr) : Nat :=
  let i := a.toNat - 0x2000
  let nt := i / 0x400
  match m with
  | .vertical => if nt = 2 ∨ nt = 3 then i - 0x800 else i
  | .horizontal =>
    if nt = 1 then i - 0x400
    else if nt = 2 then i - 0x400
    else if nt = 3 then i - 0x800
    else i

/-- `PalIndex(a)` for 0x3F00 ≤ a ≤ 0x3FFF (47_ppu_registers.md R377). -/
def palIndex (a : PpuAddr) : Nat :=
  let i := (a.toNat - 0x3F00) % 32
  if i = 0x10 ∨ i = 0x14 ∨ i = 0x18 ∨ i = 0x1C then i - 0x10 else i

/-- `PpuRead(a)`, no side effect (47_ppu_registers.md R370). -/
def ppuRead (c : Config) (p : Ppu) (a : PpuAddr) : Byte :=
  if a.toNat ≤ 0x1FFF then chrRead c a.toNat
  else if a.toNat ≤ 0x2FFF then p.vram.read (vramIndex c.mirroring a)
  else if a.toNat ≤ 0x3EFF then 0x00
  else p.palette.read (palIndex a)

end Sys2Proof.Machine
end

