-- ==== Sys2Proof/Machine/Ops.lean ====
section
/-! DEFINITION. The named operations over memory and registers: the Bus (20_memory.md R71 to R111), OAM DMA
(49_devices.md R430), the stack helpers (40_cpu_step_addressing.md R175 to R178), the NMI entry (60_exceptions.md R460)
and the return from it (44_control_flow.md R259), the tick and trace that retire an instruction
(40_cpu_step_addressing.md R164), and the placing of a program's bytes.

Every operation is a total function on states. An InvalidAccess of a strict machine is kept in `stop`; `finish`
turns it into the fault that ends the step (60_exceptions.md R455, notes/assumptions/3.md). -/
namespace Sys2Proof.Machine

/-- Tell the host something (00_scope.md R12). -/
def emit (e : Event) (s : State) : State := { s with events := e :: s.events }

/-- `log(kind, addr)` (00_scope.md R12, 60_exceptions.md R454). -/
def logAt (k : LogKind) (a : Addr) (s : State) : State := emit (.log k a) s

/-- `raise InvalidAccess(kind, addr)`: strict, the access stops the machine (the first one counts, since nothing after it
happens); permissive, it is logged (60_exceptions.md R455). -/
def invalidAccess (k : InvalidKind) (a : Addr) (s : State) : State :=
  if s.cfg.strict then
    match s.stop with
    | none => { s with stop := some ⟨k, a⟩ }
    | some _ => s
  else logAt (.invalid k) a s

/-! ### The PPU's data port, which needs the cartridge and the log -/

/-- `PpuReadData()`, read of 0x2007 (47_ppu_registers.md R367). -/
def ppuReadData (s : State) : Byte × State :=
  let a := s.ppu.addrValue
  let q := s.ppu.incAddr
  if a.toNat ≤ 0x2FFF then (q.dataBuf, { s with ppu := { q with dataBuf := ppuRead s.cfg q a } })
  else if a.toNat ≤ 0x3EFF then (0x00, logAt .ppuUnused (a.setWidth 16) { s with ppu := q })
  else (q.palette.read (palIndex a), { s with ppu := q })

/-- `PpuWrite(a, v)` (47_ppu_registers.md R371). -/
def ppuWrite (a : PpuAddr) (v : Byte) (s : State) : State :=
  if a.toNat ≤ 0x1FFF then logAt .chrWrite (a.setWidth 16) s
  else if a.toNat ≤ 0x2FFF then
    { s with ppu := { s.ppu with vram := s.ppu.vram.write (vramIndex s.cfg.mirroring a) v } }
  else if a.toNat ≤ 0x3EFF then logAt .ppuUnused (a.setWidth 16) s
  else { s with ppu := { s.ppu with palette := s.ppu.palette.write (palIndex a) v } }

/-- `PpuWriteData(v)`, write to 0x2007 (47_ppu_registers.md R368). -/
def ppuWriteData (v : Byte) (s : State) : State :=
  let t := ppuWrite s.ppu.addrValue v s
  { t with ppu := t.ppu.incAddr }

/-! ### The Bus -/

/-- The RAM index of a CPU address: `addr & 0x07FF` (20_memory.md R76). -/
def ramIndex (a : Addr) : Nat := (a &&& 0x07FF#16).toNat

/-- The PPU register a CPU address selects: `addr & 0x2007` (20_memory.md R77). -/
def ppuReg (a : Addr) : Addr := a &&& 0x2007#16

/-- A read in 0x2000 to 0x3FFF (20_memory.md R72, R78). -/
def ppuRegRead (a : Addr) (s : State) : Byte × State :=
  if ppuReg a = 0x2002#16 then
    let r := s.ppu.readStatus
    (r.1, { s with ppu := r.2 })
  else if ppuReg a = 0x2004#16 then (s.ppu.readOamData, s)
  else if ppuReg a = 0x2007#16 then ppuReadData s
  else (0x00, invalidAccess .readWriteOnly a s)

/-- `BusRead(addr)` (20_memory.md R72). -/
def busRead (a : Addr) (s : State) : Byte × State :=
  if a.toNat < 0x2000 then (s.ram.read (ramIndex a), s)
  else if a.toNat < 0x4000 then ppuRegRead a s
  else if a = 0x4016#16 then
    let r := s.joy0.read
    (r.1, { s with joy0 := r.2 })
  else if a = 0x4017#16 then
    let r := s.joy1.read
    (r.1, { s with joy1 := r.2 })
  else if a.toNat < 0x4018 then (0x00, s)
  else if a.toNat < 0x8000 then (0x00, logAt .unmapped a s)
  else (prgRead s.cfg a, s)

/-- `n` Bus reads at ascending addresses from `a`, in that order: the bytes, and the state after them. -/
def busReadRun : Nat → Addr → State → List Byte × State
  | 0, _, s => ([], s)
  | n + 1, a, s =>
    let r := busRead a s
    let t := busReadRun n (a + 1) r.2
    (r.1 :: t.1, t.2)

/-- `OamDma(page)` (49_devices.md R430): 256 Bus reads with every side effect, then 256 OAM writes. -/
def oamDma (page : Byte) (s : State) : State :=
  let r := busReadRun 256 (wordOf 0x00 page) s
  { r.2 with ppu := r.1.foldl (fun p b => p.writeOamData b) r.2.ppu }

/-- A write in 0x2000 to 0x3FFF (20_memory.md R73, R79). -/
def ppuRegWrite (a : Addr) (v : Byte) (s : State) : State :=
  if ppuReg a = 0x2000#16 then { s with ppu := s.ppu.writeCtrl v }
  else if ppuReg a = 0x2001#16 then { s with ppu := s.ppu.writeMask v }
  else if ppuReg a = 0x2002#16 then invalidAccess .writeStatus a s
  else if ppuReg a = 0x2003#16 then { s with ppu := s.ppu.writeOamAddr v }
  else if ppuReg a = 0x2004#16 then { s with ppu := s.ppu.writeOamData v }
  else if ppuReg a = 0x2005#16 then { s with ppu := s.ppu.writeScroll v }
  else if ppuReg a = 0x2006#16 then { s with ppu := s.ppu.writeAddr v }
  else ppuWriteData v s

/-- `BusWrite(addr, v)` (20_memory.md R73). -/
def busWrite (a : Addr) (v : Byte) (s : State) : State :=
  if a.toNat < 0x2000 then { s with ram := s.ram.write (ramIndex a) v }
  else if a.toNat < 0x4000 then ppuRegWrite a v s
  else if a = 0x4014#16 then oamDma v s
  else if a = 0x4016#16 then { s with joy0 := s.joy0.strobeWrite v, joy1 := s.joy1.strobeWrite v }
  else if a.toNat < 0x4018 then s
  else if a.toNat < 0x8000 then logAt .unmapped a s
  else invalidAccess .writeRom a s

/-- `MemRead(addr, 2)`: the byte at `addr`, then the byte at `u16(addr + 1)` (00_scope.md R10, 20_memory.md R100). -/
def busRead16 (a : Addr) (s : State) : Addr × State :=
  let l := busRead a s
  let h := busRead (a + 1) l.2
  (wordOf l.1 h.1, h.2)

/-- The host's turn at OnFrame: it sets the buttons of both joypads to the next pair of its input; with no pair left
they stay (49_devices.md R424, R425; notes/assumptions/6.md). -/
def hostFrame (s : State) : State :=
  match s.input with
  | [] => s
  | b :: rest =>
    { s with input := rest, joy0 := { s.joy0 with buttons := b.1 }, joy1 := { s.joy1 with buttons := b.2 } }

/-- `BusTick(n)` (20_memory.md R110). -/
def busTick (n : Nat) (s : State) : State :=
  let t : State := { s with cycles := s.cycles + n, ppu := (s.ppu.tick (3 * n)).1 }
  if !s.ppu.nmiPending && t.ppu.nmiPending then hostFrame (emit .onFrame t) else t

/-- The state after `PollNmi()`; what it answers is `s.ppu.nmiPending` (20_memory.md R111). -/
def pollNmi (s : State) : State := { s with ppu := { s.ppu with nmiPending := false } }

/-! ### The stack -/

/-- `Push(v)` (40_cpu_step_addressing.md R175). -/
def push (v : Byte) (s : State) : State :=
  (busWrite (stackAddr s.sp) v s).setSp (s.sp - 1)

/-- `Pull()` (40_cpu_step_addressing.md R176). -/
def pull (s : State) : Byte × State := busRead (stackAddr (s.sp + 1)) (s.setSp (s.sp + 1))

/-- `Push16(w)`: high byte, then low byte (40_cpu_step_addressing.md R177). -/
def push16 (w : Addr) (s : State) : State := push (loByte w) (push (hiByte w) s)

/-- `Pull16()`: low byte, then high byte (40_cpu_step_addressing.md R178). -/
def pull16 (s : State) : Addr × State :=
  let l := pull s
  let h := pull l.2
  (wordOf l.1 h.1, h.2)

/-! ### Taking the NMI and returning from it -/

/-- The status byte that the NMI entry pushes: BREAK clear, BREAK2 set (60_exceptions.md R460). -/
def nmiImage (p : Byte) : Byte := (p &&& 0xEF#8) ||| 0x20#8

/-- `NmiEntry()` (60_exceptions.md R460): push PC and the status image, set I, tick 2 cycles, load PC from 0xFFFA. -/
def nmiEntry (s : State) : State :=
  let t := busTick 2 ((push (nmiImage s.p) (push16 s.pc s)).setFlag bitI true)
  let v := busRead16 0xFFFA#16 t
  v.2.setPc v.1

/-- Step 1 of the CPU step: `if PollNmi() then NmiEntry()` (40_cpu_step_addressing.md R160, 60_exceptions.md R457). -/
def serviceNmi (s : State) : State := if s.ppu.nmiPending then nmiEntry (pollNmi s) else pollNmi s

/-- P as a pull leaves it: BREAK forced 0, BREAK2 forced 1 (45_stack_flags.md R283, 44_control_flow.md R259). -/
def pulledStatus (v : Byte) : Byte := putBit (putBit v bitB false) bitU true

/-- The return from interrupt: pull P, force its bits 4 and 5, pull PC with no adjustment (44_control_flow.md R259). -/
def returnFromNmi (s : State) : State :=
  let v := pull s
  let w := pull16 (v.2.setP (pulledStatus v.1))
  w.2.setPc w.1

/-! ### Fetching, finishing and retiring an instruction -/

/-- Steps 2 of the CPU step: `op <- MemRead(PC, 1); PC <- u16(PC + 1)` (40_cpu_step_addressing.md R160, R161). -/
def fetchOpcode (s : State) : Byte × State :=
  let r := busRead s.pc s
  (r.1, r.2.setPc (s.pc + 1))

/-- The bytes at `a` and after it as Bus reads would answer them, without performing any: what a trace shows of an
instruction's operands (DESIGN CHOICE, notes/assumptions/7.md). -/
def peekBytes : Nat → Addr → State → List Byte
  | 0, _, _ => []
  | n + 1, a, s => (busRead a s).1 :: peekBytes n (a + 1) s

/-- Step 6 of the CPU step, for an instruction that did not alter PC: `PC <- u16(PC + len - 1)`
(40_cpu_step_addressing.md R163). -/
def advancePc (i : Instr) (s : State) : State := s.setPc (s.pc + BitVec.ofNat 16 (i.len - 1))

/-- The outcome of a meaning: the state it computed, or the fault of the first InvalidAccess of a strict machine
(60_exceptions.md R455). -/
def finish (s : State) : Host.Outcome State Fault Refusal :=
  match s.stop with
  | none => .next s
  | some r => .fault (.invalidAccess r.kind r.addr)

/-- Steps 4 to 6 for an instruction that does not alter PC: its effect, then the PC advance (40_cpu_step_addressing.md
R160, R163). -/
def plain (i : Instr) (effect : State → State) (s : State) : Host.Outcome State Fault Refusal :=
  finish (advancePc i (effect s))

/-- Steps 4 to 6 for an instruction that settles PC itself (40_cpu_step_addressing.md R163). -/
def control (effect : State → State) (s : State) : Host.Outcome State Fault Refusal := finish (effect s)

/-- Steps 7 and 8: tick the base cost, then the trace event with the state after it (40_cpu_step_addressing.md R164,
60_exceptions.md R474). -/
def retire (i : Instr) (bytes : List Byte) (s : State) : State :=
  let t := busTick i.cycles s
  emit (.trace t.a t.x t.y t.sp t.p t.pc bytes i) t

/-- What the step adds after `exec`: a machine that BRK halted is neither ticked nor traced (44_control_flow.md R262);
every other instruction is retired. -/
def afterExec (i : Instr) (bytes : List Byte) :
    Host.Outcome State Fault Refusal → Host.Outcome State Fault Refusal
  | .next t => if t.halted then .next t else .next (retire i bytes t)
  | .fault r => .fault r
  | .refused r => .refused r

/-! ### Placing a program's bytes, from outside the machine -/

/-- Whether a byte of a program can stand at a CPU address: in RAM or in PRG-ROM. -/
def placeable (a : Addr) : Bool := decide (a.toNat < 0x2000) || decide (0x8000 ≤ a.toNat)

/-- Put a byte into RAM, or into the cartridge's PRG, where a fetch from `a` reads it. -/
def placeByte (a : Addr) (v : Byte) (s : State) : State :=
  if a.toNat < 0x2000 then { s with ram := s.ram.write (ramIndex a) v }
  else if 0x8000 ≤ a.toNat then
    { s with cfg := { s.cfg with prg := s.cfg.prg.write (prgIndex s.cfg.prgSize a) v } }
  else s

/-- Put bytes at ascending addresses. -/
def placeBytes : Addr → List Byte → State → State
  | _, [], s => s
  | a, v :: vs, s => placeBytes (a + 1) vs (placeByte a v s)

end Sys2Proof.Machine
end

