-- ==== Sys2Proof/Machine/Operands.lean ====
section
/-! DEFINITION. The operand forms: the effective address of every addressing mode (40_cpu_step_addressing.md R166 to
R173), and the three shapes in which an instruction uses it: read it, store to it, read-modify-write it (R179). All of them
run with PC at the first operand byte (R161). -/
namespace Sys2Proof.Machine

/-- The 16-bit pointer in page 0 at `p`, its second byte at `u8(p + 1)` (40_cpu_step_addressing.md R172, R173). -/
def zeroPagePointer (p : Byte) (s : State) : Addr × State :=
  let l := busRead (zext16 p) s
  let h := busRead (zext16 (p + 1)) l.2
  (wordOf l.1 h.1, h.2)

/-- The effective address of a mode, and the state after its operand and pointer bytes are read. -/
def effAddr (m : DataMode) (s : State) : Addr × State :=
  match m with
  | .imm => (s.pc, s)                                    -- R166: EA = PC, nothing read
  | .zp =>                                               -- R167
    let b := busRead s.pc s
    (zext16 b.1, b.2)
  | .zpx =>                                              -- R168: the sum wraps at 8 bits
    let b := busRead s.pc s
    (zext16 (b.1 + s.x), b.2)
  | .zpy =>                                              -- R169
    let b := busRead s.pc s
    (zext16 (b.1 + s.y), b.2)
  | .abs => busRead16 s.pc s                             -- R170
  | .abx =>                                              -- R171: the sum wraps at 16 bits
    let w := busRead16 s.pc s
    (w.1 + zext16 s.x, w.2)
  | .aby =>                                              -- R171
    let w := busRead16 s.pc s
    (w.1 + zext16 s.y, w.2)
  | .izx =>                                              -- R172
    let b := busRead s.pc s
    zeroPagePointer (b.1 + s.x) b.2
  | .izy =>                                              -- R173
    let b := busRead s.pc s
    let w := zeroPagePointer b.1 b.2
    (w.1 + zext16 s.y, w.2)

/-- Read the operand `M = MemRead(EA, 1)`, then use it. -/
def readOperand (m : DataMode) (use : Byte → State → State) (s : State) : State :=
  let e := effAddr m s
  let r := busRead e.1 e.2
  use r.1 r.2

/-- `MemWrite(EA, 1, v)` with a value that may depend on EA; the target is not read (20_memory.md R101). -/
def storeOperand (m : DataMode) (value : Addr → State → Byte) (s : State) : State :=
  let e := effAddr m s
  busWrite e.1 (value e.1 e.2) e.2

/-- The read-modify-write pattern: exactly one read of EA, then exactly one write of the result; then what follows, given the
byte read (40_cpu_step_addressing.md R179). -/
def modifyOperand (m : DataMode) (result : Byte → State → Byte) (after : Byte → State → State) (s : State) : State :=
  let e := effAddr m s
  let r := busRead e.1 e.2
  after r.1 (busWrite e.1 (result r.1 r.2) r.2)

end Sys2Proof.Machine
end

