-- ==== Sys2Proof/Machine/LoadStore.lean ====
section
/-! DEFINITION. Loads, stores and register transfers (41_load_store_transfer.md). -/
namespace Sys2Proof.Machine

/-- `A <- MemRead(EA, 1); setZN(A)` (R190). -/
def ldaRule (m : DataMode) (s : State) : State := readOperand m (fun v t => (t.setA v).setZN v) s
/-- `X <- MemRead(EA, 1); setZN(X)` (R191). -/
def ldxRule (m : DataMode) (s : State) : State := readOperand m (fun v t => (t.setX v).setZN v) s
/-- `Y <- MemRead(EA, 1); setZN(Y)` (R192). -/
def ldyRule (m : DataMode) (s : State) : State := readOperand m (fun v t => (t.setY v).setZN v) s
/-- `MemWrite(EA, 1, A)` (R193). -/
def staRule (m : DataMode) (s : State) : State := storeOperand m (fun _ t => t.a) s
/-- `MemWrite(EA, 1, X)` (R194). -/
def stxRule (m : DataMode) (s : State) : State := storeOperand m (fun _ t => t.x) s
/-- `MemWrite(EA, 1, Y)` (R195). -/
def styRule (m : DataMode) (s : State) : State := storeOperand m (fun _ t => t.y) s
/-- `X <- A; setZN(X)` (R196). -/
def taxRule (s : State) : State := (s.setX s.a).setZN s.a
/-- `Y <- A; setZN(Y)` (R197). -/
def tayRule (s : State) : State := (s.setY s.a).setZN s.a
/-- `X <- SP; setZN(X)` (R198). -/
def tsxRule (s : State) : State := (s.setX s.sp).setZN s.sp
/-- `A <- X; setZN(A)` (R199). -/
def txaRule (s : State) : State := (s.setA s.x).setZN s.x
/-- `SP <- X`, no flag (R200). -/
def txsRule (s : State) : State := s.setSp s.x
/-- `A <- Y; setZN(A)` (R201). -/
def tyaRule (s : State) : State := (s.setA s.y).setZN s.y

/-- 0xA1 LDA (nn,X): 41_load_store_transfer.md R190. -/
def execLdaIzx (s : State) : Host.Outcome State Fault Refusal := plain .ldaIzx (ldaRule .izx) s
/-- 0xA5 LDA nn: 41_load_store_transfer.md R190. -/
def execLdaZp (s : State) : Host.Outcome State Fault Refusal := plain .ldaZp (ldaRule .zp) s
/-- 0xA9 LDA #nn: 41_load_store_transfer.md R190. -/
def execLdaImm (s : State) : Host.Outcome State Fault Refusal := plain .ldaImm (ldaRule .imm) s
/-- 0xAD LDA nnnn: 41_load_store_transfer.md R190. -/
def execLdaAbs (s : State) : Host.Outcome State Fault Refusal := plain .ldaAbs (ldaRule .abs) s
/-- 0xB1 LDA (nn),Y: 41_load_store_transfer.md R190. -/
def execLdaIzy (s : State) : Host.Outcome State Fault Refusal := plain .ldaIzy (ldaRule .izy) s
/-- 0xB5 LDA nn,X: 41_load_store_transfer.md R190. -/
def execLdaZpx (s : State) : Host.Outcome State Fault Refusal := plain .ldaZpx (ldaRule .zpx) s
/-- 0xB9 LDA nnnn,Y: 41_load_store_transfer.md R190. -/
def execLdaAby (s : State) : Host.Outcome State Fault Refusal := plain .ldaAby (ldaRule .aby) s
/-- 0xBD LDA nnnn,X: 41_load_store_transfer.md R190. -/
def execLdaAbx (s : State) : Host.Outcome State Fault Refusal := plain .ldaAbx (ldaRule .abx) s
/-- 0xA2 LDX #nn: 41_load_store_transfer.md R191. -/
def execLdxImm (s : State) : Host.Outcome State Fault Refusal := plain .ldxImm (ldxRule .imm) s
/-- 0xA6 LDX nn: 41_load_store_transfer.md R191. -/
def execLdxZp (s : State) : Host.Outcome State Fault Refusal := plain .ldxZp (ldxRule .zp) s
/-- 0xAE LDX nnnn: 41_load_store_transfer.md R191. -/
def execLdxAbs (s : State) : Host.Outcome State Fault Refusal := plain .ldxAbs (ldxRule .abs) s
/-- 0xB6 LDX nn,Y: 41_load_store_transfer.md R191. -/
def execLdxZpy (s : State) : Host.Outcome State Fault Refusal := plain .ldxZpy (ldxRule .zpy) s
/-- 0xBE LDX nnnn,Y: 41_load_store_transfer.md R191. -/
def execLdxAby (s : State) : Host.Outcome State Fault Refusal := plain .ldxAby (ldxRule .aby) s
/-- 0xA0 LDY #nn: 41_load_store_transfer.md R192. -/
def execLdyImm (s : State) : Host.Outcome State Fault Refusal := plain .ldyImm (ldyRule .imm) s
/-- 0xA4 LDY nn: 41_load_store_transfer.md R192. -/
def execLdyZp (s : State) : Host.Outcome State Fault Refusal := plain .ldyZp (ldyRule .zp) s
/-- 0xAC LDY nnnn: 41_load_store_transfer.md R192. -/
def execLdyAbs (s : State) : Host.Outcome State Fault Refusal := plain .ldyAbs (ldyRule .abs) s
/-- 0xB4 LDY nn,X: 41_load_store_transfer.md R192. -/
def execLdyZpx (s : State) : Host.Outcome State Fault Refusal := plain .ldyZpx (ldyRule .zpx) s
/-- 0xBC LDY nnnn,X: 41_load_store_transfer.md R192. -/
def execLdyAbx (s : State) : Host.Outcome State Fault Refusal := plain .ldyAbx (ldyRule .abx) s
/-- 0x81 STA (nn,X): 41_load_store_transfer.md R193. -/
def execStaIzx (s : State) : Host.Outcome State Fault Refusal := plain .staIzx (staRule .izx) s
/-- 0x85 STA nn: 41_load_store_transfer.md R193. -/
def execStaZp (s : State) : Host.Outcome State Fault Refusal := plain .staZp (staRule .zp) s
/-- 0x8D STA nnnn: 41_load_store_transfer.md R193. -/
def execStaAbs (s : State) : Host.Outcome State Fault Refusal := plain .staAbs (staRule .abs) s
/-- 0x91 STA (nn),Y: 41_load_store_transfer.md R193. -/
def execStaIzy (s : State) : Host.Outcome State Fault Refusal := plain .staIzy (staRule .izy) s
/-- 0x95 STA nn,X: 41_load_store_transfer.md R193. -/
def execStaZpx (s : State) : Host.Outcome State Fault Refusal := plain .staZpx (staRule .zpx) s
/-- 0x99 STA nnnn,Y: 41_load_store_transfer.md R193. -/
def execStaAby (s : State) : Host.Outcome State Fault Refusal := plain .staAby (staRule .aby) s
/-- 0x9D STA nnnn,X: 41_load_store_transfer.md R193. -/
def execStaAbx (s : State) : Host.Outcome State Fault Refusal := plain .staAbx (staRule .abx) s
/-- 0x86 STX nn: 41_load_store_transfer.md R194. -/
def execStxZp (s : State) : Host.Outcome State Fault Refusal := plain .stxZp (stxRule .zp) s
/-- 0x8E STX nnnn: 41_load_store_transfer.md R194. -/
def execStxAbs (s : State) : Host.Outcome State Fault Refusal := plain .stxAbs (stxRule .abs) s
/-- 0x96 STX nn,Y: 41_load_store_transfer.md R194. -/
def execStxZpy (s : State) : Host.Outcome State Fault Refusal := plain .stxZpy (stxRule .zpy) s
/-- 0x84 STY nn: 41_load_store_transfer.md R195. -/
def execStyZp (s : State) : Host.Outcome State Fault Refusal := plain .styZp (styRule .zp) s
/-- 0x8C STY nnnn: 41_load_store_transfer.md R195. -/
def execStyAbs (s : State) : Host.Outcome State Fault Refusal := plain .styAbs (styRule .abs) s
/-- 0x94 STY nn,X: 41_load_store_transfer.md R195. -/
def execStyZpx (s : State) : Host.Outcome State Fault Refusal := plain .styZpx (styRule .zpx) s
/-- 0xAA TAX: 41_load_store_transfer.md R196. -/
def execTax (s : State) : Host.Outcome State Fault Refusal := plain .tax taxRule s
/-- 0xA8 TAY: 41_load_store_transfer.md R197. -/
def execTay (s : State) : Host.Outcome State Fault Refusal := plain .tay tayRule s
/-- 0xBA TSX: 41_load_store_transfer.md R198. -/
def execTsx (s : State) : Host.Outcome State Fault Refusal := plain .tsx tsxRule s
/-- 0x8A TXA: 41_load_store_transfer.md R199. -/
def execTxa (s : State) : Host.Outcome State Fault Refusal := plain .txa txaRule s
/-- 0x9A TXS: 41_load_store_transfer.md R200. -/
def execTxs (s : State) : Host.Outcome State Fault Refusal := plain .txs txsRule s
/-- 0x98 TYA: 41_load_store_transfer.md R201. -/
def execTya (s : State) : Host.Outcome State Fault Refusal := plain .tya tyaRule s

end Sys2Proof.Machine
end

