-- ==== Sys2Proof/Machine/Stack.lean ====
section
/-! DEFINITION. Stack and flag instructions (45_stack_flags.md). -/
namespace Sys2Proof.Machine

/-- `Push(A)` (R280). -/
def phaRule (s : State) : State := push s.a s
/-- `A <- Pull(); setZN(A)` (R281). -/
def plaRule (s : State) : State :=
  let v := pull s
  (v.2.setA v.1).setZN v.1
/-- `Push(P | 0x30)` (R282). -/
def phpRule (s : State) : State := push (s.p ||| 0x30#8) s
/-- `P <- Pull(); P.B <- 0; P.U <- 1` (R283). -/
def plpRule (s : State) : State :=
  let v := pull s
  v.2.setP (pulledStatus v.1)
/-- R284. -/
def clcRule (s : State) : State := s.setFlag bitC false
/-- R285. -/
def secRule (s : State) : State := s.setFlag bitC true
/-- R286. -/
def cliRule (s : State) : State := s.setFlag bitI false
/-- R287. -/
def seiRule (s : State) : State := s.setFlag bitI true
/-- R288. -/
def cldRule (s : State) : State := s.setFlag bitD false
/-- R289. -/
def sedRule (s : State) : State := s.setFlag bitD true
/-- R290. -/
def clvRule (s : State) : State := s.setFlag bitV false

/-- 0x48 PHA: 45_stack_flags.md R280. -/
def execPha (s : State) : Host.Outcome State Fault Refusal := plain .pha phaRule s
/-- 0x68 PLA: 45_stack_flags.md R281. -/
def execPla (s : State) : Host.Outcome State Fault Refusal := plain .pla plaRule s
/-- 0x08 PHP: 45_stack_flags.md R282. -/
def execPhp (s : State) : Host.Outcome State Fault Refusal := plain .php phpRule s
/-- 0x28 PLP: 45_stack_flags.md R283. -/
def execPlp (s : State) : Host.Outcome State Fault Refusal := plain .plp plpRule s
/-- 0x18 CLC: 45_stack_flags.md R284. -/
def execClc (s : State) : Host.Outcome State Fault Refusal := plain .clc clcRule s
/-- 0x38 SEC: 45_stack_flags.md R285. -/
def execSec (s : State) : Host.Outcome State Fault Refusal := plain .sec secRule s
/-- 0x58 CLI: 45_stack_flags.md R286. -/
def execCli (s : State) : Host.Outcome State Fault Refusal := plain .cli cliRule s
/-- 0x78 SEI: 45_stack_flags.md R287. -/
def execSei (s : State) : Host.Outcome State Fault Refusal := plain .sei seiRule s
/-- 0xD8 CLD: 45_stack_flags.md R288. -/
def execCld (s : State) : Host.Outcome State Fault Refusal := plain .cld cldRule s
/-- 0xF8 SED: 45_stack_flags.md R289. -/
def execSed (s : State) : Host.Outcome State Fault Refusal := plain .sed sedRule s
/-- 0xB8 CLV: 45_stack_flags.md R290. -/
def execClv (s : State) : Host.Outcome State Fault Refusal := plain .clv clvRule s

end Sys2Proof.Machine
end

