-- ==== Sys2Proof/Machine/Arith.lean ====
section
/-! DEFINITION. Arithmetic, logic, compare, increment and decrement (42_arith_logic.md). Arithmetic wraps modulo 256 (R230) and
ignores P.D (R231). -/
namespace Sys2Proof.Machine

/-- `AddCore(MemRead(EA, 1))` (R211). -/
def adcRule (m : DataMode) (s : State) : State := readOperand m addCore s
/-- `AddCore(~MemRead(EA, 1))` (R212). -/
def sbcRule (m : DataMode) (s : State) : State := readOperand m (fun v t => addCore (~~~v) t) s
/-- R213. -/
def andRule (m : DataMode) (s : State) : State := readOperand m andCore s
/-- R214. -/
def oraRule (m : DataMode) (s : State) : State := readOperand m oraCore s
/-- R215. -/
def eorRule (m : DataMode) (s : State) : State := readOperand m eorCore s
/-- `CmpCore(A, MemRead(EA, 1))` (R217). -/
def cmpRule (m : DataMode) (s : State) : State := readOperand m (fun v t => cmpCore t.a v t) s
/-- `CmpCore(X, MemRead(EA, 1))` (R218). -/
def cpxRule (m : DataMode) (s : State) : State := readOperand m (fun v t => cmpCore t.x v t) s
/-- `CmpCore(Y, MemRead(EA, 1))` (R219). -/
def cpyRule (m : DataMode) (s : State) : State := readOperand m (fun v t => cmpCore t.y v t) s
/-- R220. -/
def bitRule (m : DataMode) (s : State) : State := readOperand m bitCore s
/-- `IncMem(EA)`, then what a composite does with its result (R221, 46_unofficial.md R306). -/
def incMem (m : DataMode) (after : Byte → State → State) (s : State) : State :=
  modifyOperand m (fun b _ => b + 1) (fun b t => after (b + 1) (t.setZN (b + 1))) s
/-- `DecMem(EA)`, then what a composite does with its result (R222, 46_unofficial.md R305). -/
def decMem (m : DataMode) (after : Byte → State → State) (s : State) : State :=
  modifyOperand m (fun b _ => b - 1) (fun b t => after (b - 1) (t.setZN (b - 1))) s
/-- R221. -/
def incRule (m : DataMode) (s : State) : State := incMem m (fun _ t => t) s
/-- R222. -/
def decRule (m : DataMode) (s : State) : State := decMem m (fun _ t => t) s
/-- `X <- u8(X + 1); setZN(X)` (R223). -/
def inxRule (s : State) : State := (s.setX (s.x + 1)).setZN (s.x + 1)
/-- `Y <- u8(Y + 1); setZN(Y)` (R224). -/
def inyRule (s : State) : State := (s.setY (s.y + 1)).setZN (s.y + 1)
/-- `X <- u8(X - 1); setZN(X)` (R225). -/
def dexRule (s : State) : State := (s.setX (s.x - 1)).setZN (s.x - 1)
/-- `Y <- u8(Y - 1); setZN(Y)` (R226). -/
def deyRule (s : State) : State := (s.setY (s.y - 1)).setZN (s.y - 1)

/-- 0x61 ADC (nn,X): 42_arith_logic.md R211. -/
def execAdcIzx (s : State) : Host.Outcome State Fault Refusal := plain .adcIzx (adcRule .izx) s
/-- 0x65 ADC nn: 42_arith_logic.md R211. -/
def execAdcZp (s : State) : Host.Outcome State Fault Refusal := plain .adcZp (adcRule .zp) s
/-- 0x69 ADC #nn: 42_arith_logic.md R211. -/
def execAdcImm (s : State) : Host.Outcome State Fault Refusal := plain .adcImm (adcRule .imm) s
/-- 0x6D ADC nnnn: 42_arith_logic.md R211. -/
def execAdcAbs (s : State) : Host.Outcome State Fault Refusal := plain .adcAbs (adcRule .abs) s
/-- 0x71 ADC (nn),Y: 42_arith_logic.md R211. -/
def execAdcIzy (s : State) : Host.Outcome State Fault Refusal := plain .adcIzy (adcRule .izy) s
/-- 0x75 ADC nn,X: 42_arith_logic.md R211. -/
def execAdcZpx (s : State) : Host.Outcome State Fault Refusal := plain .adcZpx (adcRule .zpx) s
/-- 0x79 ADC nnnn,Y: 42_arith_logic.md R211. -/
def execAdcAby (s : State) : Host.Outcome State Fault Refusal := plain .adcAby (adcRule .aby) s
/-- 0x7D ADC nnnn,X: 42_arith_logic.md R211. -/
def execAdcAbx (s : State) : Host.Outcome State Fault Refusal := plain .adcAbx (adcRule .abx) s
/-- 0xE1 SBC (nn,X): 42_arith_logic.md R212. -/
def execSbcIzx (s : State) : Host.Outcome State Fault Refusal := plain .sbcIzx (sbcRule .izx) s
/-- 0xE5 SBC nn: 42_arith_logic.md R212. -/
def execSbcZp (s : State) : Host.Outcome State Fault Refusal := plain .sbcZp (sbcRule .zp) s
/-- 0xE9 SBC #nn: 42_arith_logic.md R212. -/
def execSbcImm (s : State) : Host.Outcome State Fault Refusal := plain .sbcImm (sbcRule .imm) s
/-- 0xED SBC nnnn: 42_arith_logic.md R212. -/
def execSbcAbs (s : State) : Host.Outcome State Fault Refusal := plain .sbcAbs (sbcRule .abs) s
/-- 0xF1 SBC (nn),Y: 42_arith_logic.md R212. -/
def execSbcIzy (s : State) : Host.Outcome State Fault Refusal := plain .sbcIzy (sbcRule .izy) s
/-- 0xF5 SBC nn,X: 42_arith_logic.md R212. -/
def execSbcZpx (s : State) : Host.Outcome State Fault Refusal := plain .sbcZpx (sbcRule .zpx) s
/-- 0xF9 SBC nnnn,Y: 42_arith_logic.md R212. -/
def execSbcAby (s : State) : Host.Outcome State Fault Refusal := plain .sbcAby (sbcRule .aby) s
/-- 0xFD SBC nnnn,X: 42_arith_logic.md R212. -/
def execSbcAbx (s : State) : Host.Outcome State Fault Refusal := plain .sbcAbx (sbcRule .abx) s
/-- 0x21 AND (nn,X): 42_arith_logic.md R213. -/
def execAndIzx (s : State) : Host.Outcome State Fault Refusal := plain .andIzx (andRule .izx) s
/-- 0x25 AND nn: 42_arith_logic.md R213. -/
def execAndZp (s : State) : Host.Outcome State Fault Refusal := plain .andZp (andRule .zp) s
/-- 0x29 AND #nn: 42_arith_logic.md R213. -/
def execAndImm (s : State) : Host.Outcome State Fault Refusal := plain .andImm (andRule .imm) s
/-- 0x2D AND nnnn: 42_arith_logic.md R213. -/
def execAndAbs (s : State) : Host.Outcome State Fault Refusal := plain .andAbs (andRule .abs) s
/-- 0x31 AND (nn),Y: 42_arith_logic.md R213. -/
def execAndIzy (s : State) : Host.Outcome State Fault Refusal := plain .andIzy (andRule .izy) s
/-- 0x35 AND nn,X: 42_arith_logic.md R213. -/
def execAndZpx (s : State) : Host.Outcome State Fault Refusal := plain .andZpx (andRule .zpx) s
/-- 0x39 AND nnnn,Y: 42_arith_logic.md R213. -/
def execAndAby (s : State) : Host.Outcome State Fault Refusal := plain .andAby (andRule .aby) s
/-- 0x3D AND nnnn,X: 42_arith_logic.md R213. -/
def execAndAbx (s : State) : Host.Outcome State Fault Refusal := plain .andAbx (andRule .abx) s
/-- 0x01 ORA (nn,X): 42_arith_logic.md R214. -/
def execOraIzx (s : State) : Host.Outcome State Fault Refusal := plain .oraIzx (oraRule .izx) s
/-- 0x05 ORA nn: 42_arith_logic.md R214. -/
def execOraZp (s : State) : Host.Outcome State Fault Refusal := plain .oraZp (oraRule .zp) s
/-- 0x09 ORA #nn: 42_arith_logic.md R214. -/
def execOraImm (s : State) : Host.Outcome State Fault Refusal := plain .oraImm (oraRule .imm) s
/-- 0x0D ORA nnnn: 42_arith_logic.md R214. -/
def execOraAbs (s : State) : Host.Outcome State Fault Refusal := plain .oraAbs (oraRule .abs) s
/-- 0x11 ORA (nn),Y: 42_arith_logic.md R214. -/
def execOraIzy (s : State) : Host.Outcome State Fault Refusal := plain .oraIzy (oraRule .izy) s
/-- 0x15 ORA nn,X: 42_arith_logic.md R214. -/
def execOraZpx (s : State) : Host.Outcome State Fault Refusal := plain .oraZpx (oraRule .zpx) s
/-- 0x19 ORA nnnn,Y: 42_arith_logic.md R214. -/
def execOraAby (s : State) : Host.Outcome State Fault Refusal := plain .oraAby (oraRule .aby) s
/-- 0x1D ORA nnnn,X: 42_arith_logic.md R214. -/
def execOraAbx (s : State) : Host.Outcome State Fault Refusal := plain .oraAbx (oraRule .abx) s
/-- 0x41 EOR (nn,X): 42_arith_logic.md R215. -/
def execEorIzx (s : State) : Host.Outcome State Fault Refusal := plain .eorIzx (eorRule .izx) s
/-- 0x45 EOR nn: 42_arith_logic.md R215. -/
def execEorZp (s : State) : Host.Outcome State Fault Refusal := plain .eorZp (eorRule .zp) s
/-- 0x49 EOR #nn: 42_arith_logic.md R215. -/
def execEorImm (s : State) : Host.Outcome State Fault Refusal := plain .eorImm (eorRule .imm) s
/-- 0x4D EOR nnnn: 42_arith_logic.md R215. -/
def execEorAbs (s : State) : Host.Outcome State Fault Refusal := plain .eorAbs (eorRule .abs) s
/-- 0x51 EOR (nn),Y: 42_arith_logic.md R215. -/
def execEorIzy (s : State) : Host.Outcome State Fault Refusal := plain .eorIzy (eorRule .izy) s
/-- 0x55 EOR nn,X: 42_arith_logic.md R215. -/
def execEorZpx (s : State) : Host.Outcome State Fault Refusal := plain .eorZpx (eorRule .zpx) s
/-- 0x59 EOR nnnn,Y: 42_arith_logic.md R215. -/
def execEorAby (s : State) : Host.Outcome State Fault Refusal := plain .eorAby (eorRule .aby) s
/-- 0x5D EOR nnnn,X: 42_arith_logic.md R215. -/
def execEorAbx (s : State) : Host.Outcome State Fault Refusal := plain .eorAbx (eorRule .abx) s
/-- 0xC1 CMP (nn,X): 42_arith_logic.md R217. -/
def execCmpIzx (s : State) : Host.Outcome State Fault Refusal := plain .cmpIzx (cmpRule .izx) s
/-- 0xC5 CMP nn: 42_arith_logic.md R217. -/
def execCmpZp (s : State) : Host.Outcome State Fault Refusal := plain .cmpZp (cmpRule .zp) s
/-- 0xC9 CMP #nn: 42_arith_logic.md R217. -/
def execCmpImm (s : State) : Host.Outcome State Fault Refusal := plain .cmpImm (cmpRule .imm) s
/-- 0xCD CMP nnnn: 42_arith_logic.md R217. -/
def execCmpAbs (s : State) : Host.Outcome State Fault Refusal := plain .cmpAbs (cmpRule .abs) s
/-- 0xD1 CMP (nn),Y: 42_arith_logic.md R217. -/
def execCmpIzy (s : State) : Host.Outcome State Fault Refusal := plain .cmpIzy (cmpRule .izy) s
/-- 0xD5 CMP nn,X: 42_arith_logic.md R217. -/
def execCmpZpx (s : State) : Host.Outcome State Fault Refusal := plain .cmpZpx (cmpRule .zpx) s
/-- 0xD9 CMP nnnn,Y: 42_arith_logic.md R217. -/
def execCmpAby (s : State) : Host.Outcome State Fault Refusal := plain .cmpAby (cmpRule .aby) s
/-- 0xDD CMP nnnn,X: 42_arith_logic.md R217. -/
def execCmpAbx (s : State) : Host.Outcome State Fault Refusal := plain .cmpAbx (cmpRule .abx) s
/-- 0xE0 CPX #nn: 42_arith_logic.md R218. -/
def execCpxImm (s : State) : Host.Outcome State Fault Refusal := plain .cpxImm (cpxRule .imm) s
/-- 0xE4 CPX nn: 42_arith_logic.md R218. -/
def execCpxZp (s : State) : Host.Outcome State Fault Refusal := plain .cpxZp (cpxRule .zp) s
/-- 0xEC CPX nnnn: 42_arith_logic.md R218. -/
def execCpxAbs (s : State) : Host.Outcome State Fault Refusal := plain .cpxAbs (cpxRule .abs) s
/-- 0xC0 CPY #nn: 42_arith_logic.md R219. -/
def execCpyImm (s : State) : Host.Outcome State Fault Refusal := plain .cpyImm (cpyRule .imm) s
/-- 0xC4 CPY nn: 42_arith_logic.md R219. -/
def execCpyZp (s : State) : Host.Outcome State Fault Refusal := plain .cpyZp (cpyRule .zp) s
/-- 0xCC CPY nnnn: 42_arith_logic.md R219. -/
def execCpyAbs (s : State) : Host.Outcome State Fault Refusal := plain .cpyAbs (cpyRule .abs) s
/-- 0x24 BIT nn: 42_arith_logic.md R220. -/
def execBitZp (s : State) : Host.Outcome State Fault Refusal := plain .bitZp (bitRule .zp) s
/-- 0x2C BIT nnnn: 42_arith_logic.md R220. -/
def execBitAbs (s : State) : Host.Outcome State Fault Refusal := plain .bitAbs (bitRule .abs) s
/-- 0xE6 INC nn: 42_arith_logic.md R221. -/
def execIncZp (s : State) : Host.Outcome State Fault Refusal := plain .incZp (incRule .zp) s
/-- 0xEE INC nnnn: 42_arith_logic.md R221. -/
def execIncAbs (s : State) : Host.Outcome State Fault Refusal := plain .incAbs (incRule .abs) s
/-- 0xF6 INC nn,X: 42_arith_logic.md R221. -/
def execIncZpx (s : State) : Host.Outcome State Fault Refusal := plain .incZpx (incRule .zpx) s
/-- 0xFE INC nnnn,X: 42_arith_logic.md R221. -/
def execIncAbx (s : State) : Host.Outcome State Fault Refusal := plain .incAbx (incRule .abx) s
/-- 0xC6 DEC nn: 42_arith_logic.md R222. -/
def execDecZp (s : State) : Host.Outcome State Fault Refusal := plain .decZp (decRule .zp) s
/-- 0xCE DEC nnnn: 42_arith_logic.md R222. -/
def execDecAbs (s : State) : Host.Outcome State Fault Refusal := plain .decAbs (decRule .abs) s
/-- 0xD6 DEC nn,X: 42_arith_logic.md R222. -/
def execDecZpx (s : State) : Host.Outcome State Fault Refusal := plain .decZpx (decRule .zpx) s
/-- 0xDE DEC nnnn,X: 42_arith_logic.md R222. -/
def execDecAbx (s : State) : Host.Outcome State Fault Refusal := plain .decAbx (decRule .abx) s
/-- 0xE8 INX: 42_arith_logic.md R223. -/
def execInx (s : State) : Host.Outcome State Fault Refusal := plain .inx inxRule s
/-- 0xC8 INY: 42_arith_logic.md R224. -/
def execIny (s : State) : Host.Outcome State Fault Refusal := plain .iny inyRule s
/-- 0xCA DEX: 42_arith_logic.md R225. -/
def execDex (s : State) : Host.Outcome State Fault Refusal := plain .dex dexRule s
/-- 0x88 DEY: 42_arith_logic.md R226. -/
def execDey (s : State) : Host.Outcome State Fault Refusal := plain .dey deyRule s

end Sys2Proof.Machine
end

