-- ==== Sys2Proof/Machine/Control.lean ====
section
/-! DEFINITION. Control transfer, BRK and the official NOP (44_control_flow.md). PC is the address of the byte after the opcode. -/
namespace Sys2Proof.Machine

/-- `PC <- MemRead(PC, 2)` (R250). -/
def jmpRule (s : State) : State :=
  let w := busRead16 s.pc s
  w.2.setPc w.1

/-- Where the high byte of an indirect JMP's target comes from: "the high byte wraps within the same page when the low byte of
the target pointer is 0xFF" (R251). -/
def jmpHighAddr (ptr : Addr) : Addr := if loByte ptr = 0xFF#8 then ptr &&& 0xFF00#16 else ptr + 1

/-- JMP indirect (R251). -/
def jmpIndirectRule (s : State) : State :=
  let w := busRead16 s.pc s
  let l := busRead w.1 w.2
  let h := busRead (jmpHighAddr w.1) l.2
  h.2.setPc (wordOf l.1 h.1)

/-- `Push16(u16(PC + 1)); PC <- MemRead(PC, 2)`, the push first (R252). -/
def jsrRule (s : State) : State :=
  let w := busRead16 s.pc (push16 (s.pc + 1) s)
  w.2.setPc w.1

/-- `PC <- u16(Pull16() + 1)` (R253). -/
def rtsRule (s : State) : State :=
  let w := pull16 s
  w.2.setPc (w.1 + 1)

/-- `Branch(cond)` (R254): taken, PC is set from the offset byte; not taken, the offset byte is not read and the PC advances
past it (40_cpu_step_addressing.md R163). -/
def branchRule (i : Instr) (cond : State → Bool) (s : State) : State :=
  if cond s then
    let d := busRead s.pc s
    d.2.setPc (s.pc + 1 + sext16 d.1)
  else advancePc i s

/-- `halted <- true`, and nothing else (R262). -/
def brkRule (s : State) : State := { s with halted := true }

/-- Nothing (R265, 46_unofficial.md R314 to R316). -/
def nopRule (s : State) : State := s

/-- 0x4C JMP nnnn: 44_control_flow.md R250. -/
def execJmpAbs (s : State) : Host.Outcome State Fault Refusal := control jmpRule s
/-- 0x6C JMP (nnnn): 44_control_flow.md R251. -/
def execJmpInd (s : State) : Host.Outcome State Fault Refusal := control jmpIndirectRule s
/-- 0x20 JSR nnnn: 44_control_flow.md R252. -/
def execJsr (s : State) : Host.Outcome State Fault Refusal := control jsrRule s
/-- 0x60 RTS: 44_control_flow.md R253. -/
def execRts (s : State) : Host.Outcome State Fault Refusal := control rtsRule s
/-- 0x40 RTI: 44_control_flow.md R259. -/
def execRti (s : State) : Host.Outcome State Fault Refusal := control returnFromNmi s
/-- 0x90 BCC rel: 44_control_flow.md R255. -/
def execBcc (s : State) : Host.Outcome State Fault Refusal := control (branchRule .bcc fun t => !t.flagC) s
/-- 0xB0 BCS rel: 44_control_flow.md R256. -/
def execBcs (s : State) : Host.Outcome State Fault Refusal := control (branchRule .bcs fun t => t.flagC) s
/-- 0xF0 BEQ rel: 44_control_flow.md R257. -/
def execBeq (s : State) : Host.Outcome State Fault Refusal := control (branchRule .beq fun t => t.flagZ) s
/-- 0x30 BMI rel: 44_control_flow.md R258. -/
def execBmi (s : State) : Host.Outcome State Fault Refusal := control (branchRule .bmi fun t => t.flagN) s
/-- 0xD0 BNE rel: 44_control_flow.md R260. -/
def execBne (s : State) : Host.Outcome State Fault Refusal := control (branchRule .bne fun t => !t.flagZ) s
/-- 0x10 BPL rel: 44_control_flow.md R261. -/
def execBpl (s : State) : Host.Outcome State Fault Refusal := control (branchRule .bpl fun t => !t.flagN) s
/-- 0x50 BVC rel: 44_control_flow.md R263. -/
def execBvc (s : State) : Host.Outcome State Fault Refusal := control (branchRule .bvc fun t => !t.flagV) s
/-- 0x70 BVS rel: 44_control_flow.md R264. -/
def execBvs (s : State) : Host.Outcome State Fault Refusal := control (branchRule .bvs fun t => t.flagV) s
/-- 0x00 BRK: 44_control_flow.md R262. -/
def execBrk (s : State) : Host.Outcome State Fault Refusal := control brkRule s
/-- 0xEA NOP: 44_control_flow.md R265. -/
def execNopEA (s : State) : Host.Outcome State Fault Refusal := plain .nopEA nopRule s

end Sys2Proof.Machine
end

