-- ==== Sys2Proof/Machine/Shift.lean ====
section
/-! DEFINITION. Shifts and rotates, of the accumulator and of memory (43_shift_rotate.md R240). -/
namespace Sys2Proof.Machine

/-- A shift of the accumulator: `(r, c) = F(A, P.C); A <- r; P.C <- c; setZN(r)` (R240). -/
def shiftAcc (f : Bool → Byte → Byte × Bool) (s : State) : State :=
  shiftFlags (f s.flagC s.a) (s.setA (f s.flagC s.a).1)

/-- A shift of memory: `m = MemRead(EA, 1); (r, c) = F(m, P.C); MemWrite(EA, 1, r); P.C <- c; setZN(r)`, then what a composite
does with its result (R240, 46_unofficial.md R301 to R304). -/
def shiftMem (f : Bool → Byte → Byte × Bool) (m : DataMode) (after : Byte → State → State) (s : State) : State :=
  modifyOperand m (fun b t => (f t.flagC b).1) (fun b t => after (f t.flagC b).1 (shiftFlags (f t.flagC b) t)) s

/-- 0x06 ASL nn: 43_shift_rotate.md R241. -/
def execAslZp (s : State) : Host.Outcome State Fault Refusal := plain .aslZp (shiftMem aslVal .zp fun _ t => t) s
/-- 0x0A ASL A: 43_shift_rotate.md R241. -/
def execAslAcc (s : State) : Host.Outcome State Fault Refusal := plain .aslAcc (shiftAcc aslVal) s
/-- 0x0E ASL nnnn: 43_shift_rotate.md R241. -/
def execAslAbs (s : State) : Host.Outcome State Fault Refusal := plain .aslAbs (shiftMem aslVal .abs fun _ t => t) s
/-- 0x16 ASL nn,X: 43_shift_rotate.md R241. -/
def execAslZpx (s : State) : Host.Outcome State Fault Refusal := plain .aslZpx (shiftMem aslVal .zpx fun _ t => t) s
/-- 0x1E ASL nnnn,X: 43_shift_rotate.md R241. -/
def execAslAbx (s : State) : Host.Outcome State Fault Refusal := plain .aslAbx (shiftMem aslVal .abx fun _ t => t) s
/-- 0x46 LSR nn: 43_shift_rotate.md R242. -/
def execLsrZp (s : State) : Host.Outcome State Fault Refusal := plain .lsrZp (shiftMem lsrVal .zp fun _ t => t) s
/-- 0x4A LSR A: 43_shift_rotate.md R242. -/
def execLsrAcc (s : State) : Host.Outcome State Fault Refusal := plain .lsrAcc (shiftAcc lsrVal) s
/-- 0x4E LSR nnnn: 43_shift_rotate.md R242. -/
def execLsrAbs (s : State) : Host.Outcome State Fault Refusal := plain .lsrAbs (shiftMem lsrVal .abs fun _ t => t) s
/-- 0x56 LSR nn,X: 43_shift_rotate.md R242. -/
def execLsrZpx (s : State) : Host.Outcome State Fault Refusal := plain .lsrZpx (shiftMem lsrVal .zpx fun _ t => t) s
/-- 0x5E LSR nnnn,X: 43_shift_rotate.md R242. -/
def execLsrAbx (s : State) : Host.Outcome State Fault Refusal := plain .lsrAbx (shiftMem lsrVal .abx fun _ t => t) s
/-- 0x26 ROL nn: 43_shift_rotate.md R243. -/
def execRolZp (s : State) : Host.Outcome State Fault Refusal := plain .rolZp (shiftMem rolVal .zp fun _ t => t) s
/-- 0x2A ROL A: 43_shift_rotate.md R243. -/
def execRolAcc (s : State) : Host.Outcome State Fault Refusal := plain .rolAcc (shiftAcc rolVal) s
/-- 0x2E ROL nnnn: 43_shift_rotate.md R243. -/
def execRolAbs (s : State) : Host.Outcome State Fault Refusal := plain .rolAbs (shiftMem rolVal .abs fun _ t => t) s
/-- 0x36 ROL nn,X: 43_shift_rotate.md R243. -/
def execRolZpx (s : State) : Host.Outcome State Fault Refusal := plain .rolZpx (shiftMem rolVal .zpx fun _ t => t) s
/-- 0x3E ROL nnnn,X: 43_shift_rotate.md R243. -/
def execRolAbx (s : State) : Host.Outcome State Fault Refusal := plain .rolAbx (shiftMem rolVal .abx fun _ t => t) s
/-- 0x66 ROR nn: 43_shift_rotate.md R244. -/
def execRorZp (s : State) : Host.Outcome State Fault Refusal := plain .rorZp (shiftMem rorVal .zp fun _ t => t) s
/-- 0x6A ROR A: 43_shift_rotate.md R244. -/
def execRorAcc (s : State) : Host.Outcome State Fault Refusal := plain .rorAcc (shiftAcc rorVal) s
/-- 0x6E ROR nnnn: 43_shift_rotate.md R244. -/
def execRorAbs (s : State) : Host.Outcome State Fault Refusal := plain .rorAbs (shiftMem rorVal .abs fun _ t => t) s
/-- 0x76 ROR nn,X: 43_shift_rotate.md R244. -/
def execRorZpx (s : State) : Host.Outcome State Fault Refusal := plain .rorZpx (shiftMem rorVal .zpx fun _ t => t) s
/-- 0x7E ROR nnnn,X: 43_shift_rotate.md R244. -/
def execRorAbx (s : State) : Host.Outcome State Fault Refusal := plain .rorAbx (shiftMem rorVal .abx fun _ t => t) s

end Sys2Proof.Machine
end

