-- ==== Sys2Proof/Machine/Unofficial.lean ====
section
/-! DEFINITION. The unofficial opcodes (46_unofficial.md). A composite runs its first micro-operation whole, then its second on
the result, each with "the exact flag-setting behavior of its constituent official operation" (R300): the official
operations' own definitions are called. -/
namespace Sys2Proof.Machine

/-- SLO = ASL memory, then ORA (R301). -/
def sloRule (m : DataMode) (s : State) : State := shiftMem aslVal m oraCore s
/-- RLA = ROL memory, then AND (R302). -/
def rlaRule (m : DataMode) (s : State) : State := shiftMem rolVal m andCore s
/-- SRE = LSR memory, then EOR (R303). -/
def sreRule (m : DataMode) (s : State) : State := shiftMem lsrVal m eorCore s
/-- RRA = ROR memory, then ADC (R304). -/
def rraRule (m : DataMode) (s : State) : State := shiftMem rorVal m addCore s
/-- DCP = DEC memory, then CMP (R305). -/
def dcpRule (m : DataMode) (s : State) : State := decMem m (fun v t => cmpCore t.a v t) s
/-- ISB = INC memory, then SBC (R306). -/
def isbRule (m : DataMode) (s : State) : State := incMem m (fun v t => addCore (~~~v) t) s
/-- LAX = LDA, then TAX (R307). -/
def laxRule (m : DataMode) (s : State) : State :=
  readOperand m (fun v t => (((t.setA v).setZN v).setX v).setZN v) s
/-- SAX = store `A & X` (R308). -/
def saxRule (m : DataMode) (s : State) : State := storeOperand m (fun _ t => t.a &&& t.x) s
/-- ANC = AND, then copy N to C (R309). -/
def ancRule (m : DataMode) (s : State) : State :=
  readOperand m (fun v t => (andCore v t).setFlag bitC (andCore v t).flagN) s
/-- ALR = AND, then LSR A (R310). -/
def alrRule (m : DataMode) (s : State) : State := readOperand m (fun v t => shiftAcc lsrVal (andCore v t)) s
/-- The last steps of ARR: `P.C <- A[6]; P.V <- A[6] ^ A[5]` (R311). -/
def arrFlags (s : State) : State := (s.setFlag bitC (bitOf s.a 6)).setFlag bitV (bitOf s.a 6 ^^ bitOf s.a 5)
/-- ARR = AND, then ROR A, then C and V from the result; the carry shifted out is discarded (R311). -/
def arrRule (m : DataMode) (s : State) : State :=
  readOperand m (fun v t =>
    let u := andCore v t
    let r := (rorVal u.flagC u.a).1
    arrFlags ((u.setA r).setZN r)) s
/-- AXS = compare (A & X) with the operand, then write the difference to X (R312). -/
def axsRule (m : DataMode) (s : State) : State :=
  readOperand m (fun v t => (cmpCore (t.a &&& t.x) v t).setX ((t.a &&& t.x) - v)) s
/-- NOP with a memory operand: the read is performed, its value discarded (R317). -/
def nopReadRule (m : DataMode) (s : State) : State := readOperand m (fun _ t => t) s
/-- LXA = LDA immediate, then TAX (R318; notes/assumptions/9.md). -/
def lxaRule (m : DataMode) (s : State) : State :=
  readOperand m (fun v t => (((t.setA v).setZN v).setX v).setZN v) s
/-- XAA = TXA, then AND immediate (R319; notes/assumptions/9.md). -/
def xaaRule (m : DataMode) (s : State) : State :=
  readOperand m (fun v t => andCore v ((t.setA t.x).setZN t.x)) s
/-- LAS: `v = MemRead(EA, 1) & SP; A <- v; X <- v; SP <- v; setZN(v)` (R320; notes/assumptions/9.md). -/
def lasRule (m : DataMode) (s : State) : State :=
  readOperand m (fun b t => (((t.setA (b &&& t.sp)).setX (b &&& t.sp)).setSp (b &&& t.sp)).setZN (b &&& t.sp)) s
/-- TAS: `SP <- A & X; MemWrite(EA, 1, u8(hi(EA) + 1) & SP)` (R321; notes/assumptions/9.md). -/
def tasRule (m : DataMode) (s : State) : State :=
  let e := effAddr m s
  let t := e.2.setSp (e.2.a &&& e.2.x)
  busWrite e.1 ((hiByte e.1 + 1) &&& t.sp) t
/-- AHX: `MemWrite(EA, 1, A & X & hi(EA))` (R322; notes/assumptions/9.md). -/
def ahxRule (m : DataMode) (s : State) : State := storeOperand m (fun ea t => t.a &&& t.x &&& hiByte ea) s
/-- SHX: `MemWrite(EA, 1, X & u8(hi(EA) + 1))` (R323; notes/assumptions/9.md). -/
def shxRule (m : DataMode) (s : State) : State := storeOperand m (fun ea t => t.x &&& (hiByte ea + 1)) s
/-- SHY: `MemWrite(EA, 1, Y & u8(hi(EA) + 1))` (R324; notes/assumptions/9.md). -/
def shyRule (m : DataMode) (s : State) : State := storeOperand m (fun ea t => t.y &&& (hiByte ea + 1)) s

/-- 0x03 SLO (nn,X): 46_unofficial.md R301. -/
def execSloIzx (s : State) : Host.Outcome State Fault Refusal := plain .sloIzx (sloRule .izx) s
/-- 0x07 SLO nn: 46_unofficial.md R301. -/
def execSloZp (s : State) : Host.Outcome State Fault Refusal := plain .sloZp (sloRule .zp) s
/-- 0x0F SLO nnnn: 46_unofficial.md R301. -/
def execSloAbs (s : State) : Host.Outcome State Fault Refusal := plain .sloAbs (sloRule .abs) s
/-- 0x13 SLO (nn),Y: 46_unofficial.md R301. -/
def execSloIzy (s : State) : Host.Outcome State Fault Refusal := plain .sloIzy (sloRule .izy) s
/-- 0x17 SLO nn,X: 46_unofficial.md R301. -/
def execSloZpx (s : State) : Host.Outcome State Fault Refusal := plain .sloZpx (sloRule .zpx) s
/-- 0x1B SLO nnnn,Y: 46_unofficial.md R301. -/
def execSloAby (s : State) : Host.Outcome State Fault Refusal := plain .sloAby (sloRule .aby) s
/-- 0x1F SLO nnnn,X: 46_unofficial.md R301. -/
def execSloAbx (s : State) : Host.Outcome State Fault Refusal := plain .sloAbx (sloRule .abx) s
/-- 0x23 RLA (nn,X): 46_unofficial.md R302. -/
def execRlaIzx (s : State) : Host.Outcome State Fault Refusal := plain .rlaIzx (rlaRule .izx) s
/-- 0x27 RLA nn: 46_unofficial.md R302. -/
def execRlaZp (s : State) : Host.Outcome State Fault Refusal := plain .rlaZp (rlaRule .zp) s
/-- 0x2F RLA nnnn: 46_unofficial.md R302. -/
def execRlaAbs (s : State) : Host.Outcome State Fault Refusal := plain .rlaAbs (rlaRule .abs) s
/-- 0x33 RLA (nn),Y: 46_unofficial.md R302. -/
def execRlaIzy (s : State) : Host.Outcome State Fault Refusal := plain .rlaIzy (rlaRule .izy) s
/-- 0x37 RLA nn,X: 46_unofficial.md R302. -/
def execRlaZpx (s : State) : Host.Outcome State Fault Refusal := plain .rlaZpx (rlaRule .zpx) s
/-- 0x3B RLA nnnn,Y: 46_unofficial.md R302. -/
def execRlaAby (s : State) : Host.Outcome State Fault Refusal := plain .rlaAby (rlaRule .aby) s
/-- 0x3F RLA nnnn,X: 46_unofficial.md R302. -/
def execRlaAbx (s : State) : Host.Outcome State Fault Refusal := plain .rlaAbx (rlaRule .abx) s
/-- 0x43 SRE (nn,X): 46_unofficial.md R303. -/
def execSreIzx (s : State) : Host.Outcome State Fault Refusal := plain .sreIzx (sreRule .izx) s
/-- 0x47 SRE nn: 46_unofficial.md R303. -/
def execSreZp (s : State) : Host.Outcome State Fault Refusal := plain .sreZp (sreRule .zp) s
/-- 0x4F SRE nnnn: 46_unofficial.md R303. -/
def execSreAbs (s : State) : Host.Outcome State Fault Refusal := plain .sreAbs (sreRule .abs) s
/-- 0x53 SRE (nn),Y: 46_unofficial.md R303. -/
def execSreIzy (s : State) : Host.Outcome State Fault Refusal := plain .sreIzy (sreRule .izy) s
/-- 0x57 SRE nn,X: 46_unofficial.md R303. -/
def execSreZpx (s : State) : Host.Outcome State Fault Refusal := plain .sreZpx (sreRule .zpx) s
/-- 0x5B SRE nnnn,Y: 46_unofficial.md R303. -/
def execSreAby (s : State) : Host.Outcome State Fault Refusal := plain .sreAby (sreRule .aby) s
/-- 0x5F SRE nnnn,X: 46_unofficial.md R303. -/
def execSreAbx (s : State) : Host.Outcome State Fault Refusal := plain .sreAbx (sreRule .abx) s
/-- 0x63 RRA (nn,X): 46_unofficial.md R304. -/
def execRraIzx (s : State) : Host.Outcome State Fault Refusal := plain .rraIzx (rraRule .izx) s
/-- 0x67 RRA nn: 46_unofficial.md R304. -/
def execRraZp (s : State) : Host.Outcome State Fault Refusal := plain .rraZp (rraRule .zp) s
/-- 0x6F RRA nnnn: 46_unofficial.md R304. -/
def execRraAbs (s : State) : Host.Outcome State Fault Refusal := plain .rraAbs (rraRule .abs) s
/-- 0x73 RRA (nn),Y: 46_unofficial.md R304. -/
def execRraIzy (s : State) : Host.Outcome State Fault Refusal := plain .rraIzy (rraRule .izy) s
/-- 0x77 RRA nn,X: 46_unofficial.md R304. -/
def execRraZpx (s : State) : Host.Outcome State Fault Refusal := plain .rraZpx (rraRule .zpx) s
/-- 0x7B RRA nnnn,Y: 46_unofficial.md R304. -/
def execRraAby (s : State) : Host.Outcome State Fault Refusal := plain .rraAby (rraRule .aby) s
/-- 0x7F RRA nnnn,X: 46_unofficial.md R304. -/
def execRraAbx (s : State) : Host.Outcome State Fault Refusal := plain .rraAbx (rraRule .abx) s
/-- 0xC3 DCP (nn,X): 46_unofficial.md R305. -/
def execDcpIzx (s : State) : Host.Outcome State Fault Refusal := plain .dcpIzx (dcpRule .izx) s
/-- 0xC7 DCP nn: 46_unofficial.md R305. -/
def execDcpZp (s : State) : Host.Outcome State Fault Refusal := plain .dcpZp (dcpRule .zp) s
/-- 0xCF DCP nnnn: 46_unofficial.md R305. -/
def execDcpAbs (s : State) : Host.Outcome State Fault Refusal := plain .dcpAbs (dcpRule .abs) s
/-- 0xD3 DCP (nn),Y: 46_unofficial.md R305. -/
def execDcpIzy (s : State) : Host.Outcome State Fault Refusal := plain .dcpIzy (dcpRule .izy) s
/-- 0xD7 DCP nn,X: 46_unofficial.md R305. -/
def execDcpZpx (s : State) : Host.Outcome State Fault Refusal := plain .dcpZpx (dcpRule .zpx) s
/-- 0xDB DCP nnnn,Y: 46_unofficial.md R305. -/
def execDcpAby (s : State) : Host.Outcome State Fault Refusal := plain .dcpAby (dcpRule .aby) s
/-- 0xDF DCP nnnn,X: 46_unofficial.md R305. -/
def execDcpAbx (s : State) : Host.Outcome State Fault Refusal := plain .dcpAbx (dcpRule .abx) s
/-- 0xE3 ISB (nn,X): 46_unofficial.md R306. -/
def execIsbIzx (s : State) : Host.Outcome State Fault Refusal := plain .isbIzx (isbRule .izx) s
/-- 0xE7 ISB nn: 46_unofficial.md R306. -/
def execIsbZp (s : State) : Host.Outcome State Fault Refusal := plain .isbZp (isbRule .zp) s
/-- 0xEF ISB nnnn: 46_unofficial.md R306. -/
def execIsbAbs (s : State) : Host.Outcome State Fault Refusal := plain .isbAbs (isbRule .abs) s
/-- 0xF3 ISB (nn),Y: 46_unofficial.md R306. -/
def execIsbIzy (s : State) : Host.Outcome State Fault Refusal := plain .isbIzy (isbRule .izy) s
/-- 0xF7 ISB nn,X: 46_unofficial.md R306. -/
def execIsbZpx (s : State) : Host.Outcome State Fault Refusal := plain .isbZpx (isbRule .zpx) s
/-- 0xFB ISB nnnn,Y: 46_unofficial.md R306. -/
def execIsbAby (s : State) : Host.Outcome State Fault Refusal := plain .isbAby (isbRule .aby) s
/-- 0xFF ISB nnnn,X: 46_unofficial.md R306. -/
def execIsbAbx (s : State) : Host.Outcome State Fault Refusal := plain .isbAbx (isbRule .abx) s
/-- 0xA3 LAX (nn,X): 46_unofficial.md R307. -/
def execLaxIzx (s : State) : Host.Outcome State Fault Refusal := plain .laxIzx (laxRule .izx) s
/-- 0xA7 LAX nn: 46_unofficial.md R307. -/
def execLaxZp (s : State) : Host.Outcome State Fault Refusal := plain .laxZp (laxRule .zp) s
/-- 0xAF LAX nnnn: 46_unofficial.md R307. -/
def execLaxAbs (s : State) : Host.Outcome State Fault Refusal := plain .laxAbs (laxRule .abs) s
/-- 0xB3 LAX (nn),Y: 46_unofficial.md R307. -/
def execLaxIzy (s : State) : Host.Outcome State Fault Refusal := plain .laxIzy (laxRule .izy) s
/-- 0xB7 LAX nn,Y: 46_unofficial.md R307. -/
def execLaxZpy (s : State) : Host.Outcome State Fault Refusal := plain .laxZpy (laxRule .zpy) s
/-- 0xBF LAX nnnn,Y: 46_unofficial.md R307. -/
def execLaxAby (s : State) : Host.Outcome State Fault Refusal := plain .laxAby (laxRule .aby) s
/-- 0x83 SAX (nn,X): 46_unofficial.md R308. -/
def execSaxIzx (s : State) : Host.Outcome State Fault Refusal := plain .saxIzx (saxRule .izx) s
/-- 0x87 SAX nn: 46_unofficial.md R308. -/
def execSaxZp (s : State) : Host.Outcome State Fault Refusal := plain .saxZp (saxRule .zp) s
/-- 0x8F SAX nnnn: 46_unofficial.md R308. -/
def execSaxAbs (s : State) : Host.Outcome State Fault Refusal := plain .saxAbs (saxRule .abs) s
/-- 0x97 SAX nn,Y: 46_unofficial.md R308. -/
def execSaxZpy (s : State) : Host.Outcome State Fault Refusal := plain .saxZpy (saxRule .zpy) s
/-- 0x0B ANC #nn: 46_unofficial.md R309. -/
def execAnc0B (s : State) : Host.Outcome State Fault Refusal := plain .anc0B (ancRule .imm) s
/-- 0x2B ANC #nn: 46_unofficial.md R309. -/
def execAnc2B (s : State) : Host.Outcome State Fault Refusal := plain .anc2B (ancRule .imm) s
/-- 0x4B ALR #nn: 46_unofficial.md R310. -/
def execAlrImm (s : State) : Host.Outcome State Fault Refusal := plain .alrImm (alrRule .imm) s
/-- 0x6B ARR #nn: 46_unofficial.md R311. -/
def execArrImm (s : State) : Host.Outcome State Fault Refusal := plain .arrImm (arrRule .imm) s
/-- 0xCB AXS #nn: 46_unofficial.md R312. -/
def execAxsImm (s : State) : Host.Outcome State Fault Refusal := plain .axsImm (axsRule .imm) s
/-- 0xEB SBC #nn: 46_unofficial.md R313. -/
def execSbcEB (s : State) : Host.Outcome State Fault Refusal := plain .sbcEB (sbcRule .imm) s
/-- 0x02 NOP: 46_unofficial.md R315. -/
def execNop02 (s : State) : Host.Outcome State Fault Refusal := plain .nop02 nopRule s
/-- 0x04 NOP nn: 46_unofficial.md R317. -/
def execNop04 (s : State) : Host.Outcome State Fault Refusal := plain .nop04 (nopReadRule .zp) s
/-- 0x0C NOP nnnn: 46_unofficial.md R317. -/
def execNop0C (s : State) : Host.Outcome State Fault Refusal := plain .nop0C (nopReadRule .abs) s
/-- 0x12 NOP: 46_unofficial.md R315. -/
def execNop12 (s : State) : Host.Outcome State Fault Refusal := plain .nop12 nopRule s
/-- 0x14 NOP nn,X: 46_unofficial.md R317. -/
def execNop14 (s : State) : Host.Outcome State Fault Refusal := plain .nop14 (nopReadRule .zpx) s
/-- 0x1A NOP: 46_unofficial.md R314. -/
def execNop1A (s : State) : Host.Outcome State Fault Refusal := plain .nop1A nopRule s
/-- 0x1C NOP nnnn,X: 46_unofficial.md R317. -/
def execNop1C (s : State) : Host.Outcome State Fault Refusal := plain .nop1C (nopReadRule .abx) s
/-- 0x22 NOP: 46_unofficial.md R315. -/
def execNop22 (s : State) : Host.Outcome State Fault Refusal := plain .nop22 nopRule s
/-- 0x32 NOP: 46_unofficial.md R315. -/
def execNop32 (s : State) : Host.Outcome State Fault Refusal := plain .nop32 nopRule s
/-- 0x34 NOP nn,X: 46_unofficial.md R317. -/
def execNop34 (s : State) : Host.Outcome State Fault Refusal := plain .nop34 (nopReadRule .zpx) s
/-- 0x3A NOP: 46_unofficial.md R314. -/
def execNop3A (s : State) : Host.Outcome State Fault Refusal := plain .nop3A nopRule s
/-- 0x3C NOP nnnn,X: 46_unofficial.md R317. -/
def execNop3C (s : State) : Host.Outcome State Fault Refusal := plain .nop3C (nopReadRule .abx) s
/-- 0x42 NOP: 46_unofficial.md R315. -/
def execNop42 (s : State) : Host.Outcome State Fault Refusal := plain .nop42 nopRule s
/-- 0x44 NOP nn: 46_unofficial.md R317. -/
def execNop44 (s : State) : Host.Outcome State Fault Refusal := plain .nop44 (nopReadRule .zp) s
/-- 0x52 NOP: 46_unofficial.md R315. -/
def execNop52 (s : State) : Host.Outcome State Fault Refusal := plain .nop52 nopRule s
/-- 0x54 NOP nn,X: 46_unofficial.md R317. -/
def execNop54 (s : State) : Host.Outcome State Fault Refusal := plain .nop54 (nopReadRule .zpx) s
/-- 0x5A NOP: 46_unofficial.md R314. -/
def execNop5A (s : State) : Host.Outcome State Fault Refusal := plain .nop5A nopRule s
/-- 0x5C NOP nnnn,X: 46_unofficial.md R317. -/
def execNop5C (s : State) : Host.Outcome State Fault Refusal := plain .nop5C (nopReadRule .abx) s
/-- 0x62 NOP: 46_unofficial.md R315. -/
def execNop62 (s : State) : Host.Outcome State Fault Refusal := plain .nop62 nopRule s
/-- 0x64 NOP nn: 46_unofficial.md R317. -/
def execNop64 (s : State) : Host.Outcome State Fault Refusal := plain .nop64 (nopReadRule .zp) s
/-- 0x72 NOP: 46_unofficial.md R315. -/
def execNop72 (s : State) : Host.Outcome State Fault Refusal := plain .nop72 nopRule s
/-- 0x74 NOP nn,X: 46_unofficial.md R317. -/
def execNop74 (s : State) : Host.Outcome State Fault Refusal := plain .nop74 (nopReadRule .zpx) s
/-- 0x7A NOP: 46_unofficial.md R314. -/
def execNop7A (s : State) : Host.Outcome State Fault Refusal := plain .nop7A nopRule s
/-- 0x7C NOP nnnn,X: 46_unofficial.md R317. -/
def execNop7C (s : State) : Host.Outcome State Fault Refusal := plain .nop7C (nopReadRule .abx) s
/-- 0x80 NOP #nn: 46_unofficial.md R316. -/
def execNop80 (s : State) : Host.Outcome State Fault Refusal := plain .nop80 nopRule s
/-- 0x82 NOP #nn: 46_unofficial.md R316. -/
def execNop82 (s : State) : Host.Outcome State Fault Refusal := plain .nop82 nopRule s
/-- 0x89 NOP #nn: 46_unofficial.md R316. -/
def execNop89 (s : State) : Host.Outcome State Fault Refusal := plain .nop89 nopRule s
/-- 0x92 NOP: 46_unofficial.md R315. -/
def execNop92 (s : State) : Host.Outcome State Fault Refusal := plain .nop92 nopRule s
/-- 0xB2 NOP: 46_unofficial.md R315. -/
def execNopB2 (s : State) : Host.Outcome State Fault Refusal := plain .nopB2 nopRule s
/-- 0xC2 NOP #nn: 46_unofficial.md R316. -/
def execNopC2 (s : State) : Host.Outcome State Fault Refusal := plain .nopC2 nopRule s
/-- 0xD2 NOP: 46_unofficial.md R315. -/
def execNopD2 (s : State) : Host.Outcome State Fault Refusal := plain .nopD2 nopRule s
/-- 0xD4 NOP nn,X: 46_unofficial.md R317. -/
def execNopD4 (s : State) : Host.Outcome State Fault Refusal := plain .nopD4 (nopReadRule .zpx) s
/-- 0xDA NOP: 46_unofficial.md R314. -/
def execNopDA (s : State) : Host.Outcome State Fault Refusal := plain .nopDA nopRule s
/-- 0xDC NOP nnnn,X: 46_unofficial.md R317. -/
def execNopDC (s : State) : Host.Outcome State Fault Refusal := plain .nopDC (nopReadRule .abx) s
/-- 0xE2 NOP #nn: 46_unofficial.md R316. -/
def execNopE2 (s : State) : Host.Outcome State Fault Refusal := plain .nopE2 nopRule s
/-- 0xF2 NOP: 46_unofficial.md R315. -/
def execNopF2 (s : State) : Host.Outcome State Fault Refusal := plain .nopF2 nopRule s
/-- 0xF4 NOP nn,X: 46_unofficial.md R317. -/
def execNopF4 (s : State) : Host.Outcome State Fault Refusal := plain .nopF4 (nopReadRule .zpx) s
/-- 0xFA NOP: 46_unofficial.md R314. -/
def execNopFA (s : State) : Host.Outcome State Fault Refusal := plain .nopFA nopRule s
/-- 0xFC NOP nnnn,X: 46_unofficial.md R317. -/
def execNopFC (s : State) : Host.Outcome State Fault Refusal := plain .nopFC (nopReadRule .abx) s
/-- 0xAB LXA #nn: 46_unofficial.md R318. -/
def execLxaImm (s : State) : Host.Outcome State Fault Refusal := plain .lxaImm (lxaRule .imm) s
/-- 0x8B XAA #nn: 46_unofficial.md R319. -/
def execXaaImm (s : State) : Host.Outcome State Fault Refusal := plain .xaaImm (xaaRule .imm) s
/-- 0xBB LAS nnnn,Y: 46_unofficial.md R320. -/
def execLasAby (s : State) : Host.Outcome State Fault Refusal := plain .lasAby (lasRule .aby) s
/-- 0x9B TAS nnnn,Y: 46_unofficial.md R321. -/
def execTasAby (s : State) : Host.Outcome State Fault Refusal := plain .tasAby (tasRule .aby) s
/-- 0x93 AHX (nn),Y: 46_unofficial.md R322. -/
def execAhxIzy (s : State) : Host.Outcome State Fault Refusal := plain .ahxIzy (ahxRule .izy) s
/-- 0x9F AHX nnnn,Y: 46_unofficial.md R322. -/
def execAhxAby (s : State) : Host.Outcome State Fault Refusal := plain .ahxAby (ahxRule .aby) s
/-- 0x9E SHX nnnn,Y: 46_unofficial.md R323. -/
def execShxAby (s : State) : Host.Outcome State Fault Refusal := plain .shxAby (shxRule .aby) s
/-- 0x9C SHY nnnn,X: 46_unofficial.md R324. -/
def execShyAbx (s : State) : Host.Outcome State Fault Refusal := plain .shyAbx (shyRule .abx) s

end Sys2Proof.Machine
end

