-- ==== Sys2Proof/Machine/Dispatch.lean ====
section
/-! DEFINITION. The dispatch: one arm per instruction (40_cpu_step_addressing.md R160 steps 4 to 6). -/
namespace Sys2Proof.Machine

def exec (i : Instr) (s : State) : Host.Outcome State Fault Refusal :=
  match i with
  | .brk => Sys2Proof.Machine.execBrk s
  | .oraIzx => Sys2Proof.Machine.execOraIzx s
  | .nop02 => Sys2Proof.Machine.execNop02 s
  | .sloIzx => Sys2Proof.Machine.execSloIzx s
  | .nop04 => Sys2Proof.Machine.execNop04 s
  | .oraZp => Sys2Proof.Machine.execOraZp s
  | .aslZp => Sys2Proof.Machine.execAslZp s
  | .sloZp => Sys2Proof.Machine.execSloZp s
  | .php => Sys2Proof.Machine.execPhp s
  | .oraImm => Sys2Proof.Machine.execOraImm s
  | .aslAcc => Sys2Proof.Machine.execAslAcc s
  | .anc0B => Sys2Proof.Machine.execAnc0B s
  | .nop0C => Sys2Proof.Machine.execNop0C s
  | .oraAbs => Sys2Proof.Machine.execOraAbs s
  | .aslAbs => Sys2Proof.Machine.execAslAbs s
  | .sloAbs => Sys2Proof.Machine.execSloAbs s
  | .bpl => Sys2Proof.Machine.execBpl s
  | .oraIzy => Sys2Proof.Machine.execOraIzy s
  | .nop12 => Sys2Proof.Machine.execNop12 s
  | .sloIzy => Sys2Proof.Machine.execSloIzy s
  | .nop14 => Sys2Proof.Machine.execNop14 s
  | .oraZpx => Sys2Proof.Machine.execOraZpx s
  | .aslZpx => Sys2Proof.Machine.execAslZpx s
  | .sloZpx => Sys2Proof.Machine.execSloZpx s
  | .clc => Sys2Proof.Machine.execClc s
  | .oraAby => Sys2Proof.Machine.execOraAby s
  | .nop1A => Sys2Proof.Machine.execNop1A s
  | .sloAby => Sys2Proof.Machine.execSloAby s
  | .nop1C => Sys2Proof.Machine.execNop1C s
  | .oraAbx => Sys2Proof.Machine.execOraAbx s
  | .aslAbx => Sys2Proof.Machine.execAslAbx s
  | .sloAbx => Sys2Proof.Machine.execSloAbx s
  | .jsr => Sys2Proof.Machine.execJsr s
  | .andIzx => Sys2Proof.Machine.execAndIzx s
  | .nop22 => Sys2Proof.Machine.execNop22 s
  | .rlaIzx => Sys2Proof.Machine.execRlaIzx s
  | .bitZp => Sys2Proof.Machine.execBitZp s
  | .andZp => Sys2Proof.Machine.execAndZp s
  | .rolZp => Sys2Proof.Machine.execRolZp s
  | .rlaZp => Sys2Proof.Machine.execRlaZp s
  | .plp => Sys2Proof.Machine.execPlp s
  | .andImm => Sys2Proof.Machine.execAndImm s
  | .rolAcc => Sys2Proof.Machine.execRolAcc s
  | .anc2B => Sys2Proof.Machine.execAnc2B s
  | .bitAbs => Sys2Proof.Machine.execBitAbs s
  | .andAbs => Sys2Proof.Machine.execAndAbs s
  | .rolAbs => Sys2Proof.Machine.execRolAbs s
  | .rlaAbs => Sys2Proof.Machine.execRlaAbs s
  | .bmi => Sys2Proof.Machine.execBmi s
  | .andIzy => Sys2Proof.Machine.execAndIzy s
  | .nop32 => Sys2Proof.Machine.execNop32 s
  | .rlaIzy => Sys2Proof.Machine.execRlaIzy s
  | .nop34 => Sys2Proof.Machine.execNop34 s
  | .andZpx => Sys2Proof.Machine.execAndZpx s
  | .rolZpx => Sys2Proof.Machine.execRolZpx s
  | .rlaZpx => Sys2Proof.Machine.execRlaZpx s
  | .sec => Sys2Proof.Machine.execSec s
  | .andAby => Sys2Proof.Machine.execAndAby s
  | .nop3A => Sys2Proof.Machine.execNop3A s
  | .rlaAby => Sys2Proof.Machine.execRlaAby s
  | .nop3C => Sys2Proof.Machine.execNop3C s
  | .andAbx => Sys2Proof.Machine.execAndAbx s
  | .rolAbx => Sys2Proof.Machine.execRolAbx s
  | .rlaAbx => Sys2Proof.Machine.execRlaAbx s
  | .rti => Sys2Proof.Machine.execRti s
  | .eorIzx => Sys2Proof.Machine.execEorIzx s
  | .nop42 => Sys2Proof.Machine.execNop42 s
  | .sreIzx => Sys2Proof.Machine.execSreIzx s
  | .nop44 => Sys2Proof.Machine.execNop44 s
  | .eorZp => Sys2Proof.Machine.execEorZp s
  | .lsrZp => Sys2Proof.Machine.execLsrZp s
  | .sreZp => Sys2Proof.Machine.execSreZp s
  | .pha => Sys2Proof.Machine.execPha s
  | .eorImm => Sys2Proof.Machine.execEorImm s
  | .lsrAcc => Sys2Proof.Machine.execLsrAcc s
  | .alrImm => Sys2Proof.Machine.execAlrImm s
  | .jmpAbs => Sys2Proof.Machine.execJmpAbs s
  | .eorAbs => Sys2Proof.Machine.execEorAbs s
  | .lsrAbs => Sys2Proof.Machine.execLsrAbs s
  | .sreAbs => Sys2Proof.Machine.execSreAbs s
  | .bvc => Sys2Proof.Machine.execBvc s
  | .eorIzy => Sys2Proof.Machine.execEorIzy s
  | .nop52 => Sys2Proof.Machine.execNop52 s
  | .sreIzy => Sys2Proof.Machine.execSreIzy s
  | .nop54 => Sys2Proof.Machine.execNop54 s
  | .eorZpx => Sys2Proof.Machine.execEorZpx s
  | .lsrZpx => Sys2Proof.Machine.execLsrZpx s
  | .sreZpx => Sys2Proof.Machine.execSreZpx s
  | .cli => Sys2Proof.Machine.execCli s
  | .eorAby => Sys2Proof.Machine.execEorAby s
  | .nop5A => Sys2Proof.Machine.execNop5A s
  | .sreAby => Sys2Proof.Machine.execSreAby s
  | .nop5C => Sys2Proof.Machine.execNop5C s
  | .eorAbx => Sys2Proof.Machine.execEorAbx s
  | .lsrAbx => Sys2Proof.Machine.execLsrAbx s
  | .sreAbx => Sys2Proof.Machine.execSreAbx s
  | .rts => Sys2Proof.Machine.execRts s
  | .adcIzx => Sys2Proof.Machine.execAdcIzx s
  | .nop62 => Sys2Proof.Machine.execNop62 s
  | .rraIzx => Sys2Proof.Machine.execRraIzx s
  | .nop64 => Sys2Proof.Machine.execNop64 s
  | .adcZp => Sys2Proof.Machine.execAdcZp s
  | .rorZp => Sys2Proof.Machine.execRorZp s
  | .rraZp => Sys2Proof.Machine.execRraZp s
  | .pla => Sys2Proof.Machine.execPla s
  | .adcImm => Sys2Proof.Machine.execAdcImm s
  | .rorAcc => Sys2Proof.Machine.execRorAcc s
  | .arrImm => Sys2Proof.Machine.execArrImm s
  | .jmpInd => Sys2Proof.Machine.execJmpInd s
  | .adcAbs => Sys2Proof.Machine.execAdcAbs s
  | .rorAbs => Sys2Proof.Machine.execRorAbs s
  | .rraAbs => Sys2Proof.Machine.execRraAbs s
  | .bvs => Sys2Proof.Machine.execBvs s
  | .adcIzy => Sys2Proof.Machine.execAdcIzy s
  | .nop72 => Sys2Proof.Machine.execNop72 s
  | .rraIzy => Sys2Proof.Machine.execRraIzy s
  | .nop74 => Sys2Proof.Machine.execNop74 s
  | .adcZpx => Sys2Proof.Machine.execAdcZpx s
  | .rorZpx => Sys2Proof.Machine.execRorZpx s
  | .rraZpx => Sys2Proof.Machine.execRraZpx s
  | .sei => Sys2Proof.Machine.execSei s
  | .adcAby => Sys2Proof.Machine.execAdcAby s
  | .nop7A => Sys2Proof.Machine.execNop7A s
  | .rraAby => Sys2Proof.Machine.execRraAby s
  | .nop7C => Sys2Proof.Machine.execNop7C s
  | .adcAbx => Sys2Proof.Machine.execAdcAbx s
  | .rorAbx => Sys2Proof.Machine.execRorAbx s
  | .rraAbx => Sys2Proof.Machine.execRraAbx s
  | .nop80 => Sys2Proof.Machine.execNop80 s
  | .staIzx => Sys2Proof.Machine.execStaIzx s
  | .nop82 => Sys2Proof.Machine.execNop82 s
  | .saxIzx => Sys2Proof.Machine.execSaxIzx s
  | .styZp => Sys2Proof.Machine.execStyZp s
  | .staZp => Sys2Proof.Machine.execStaZp s
  | .stxZp => Sys2Proof.Machine.execStxZp s
  | .saxZp => Sys2Proof.Machine.execSaxZp s
  | .dey => Sys2Proof.Machine.execDey s
  | .nop89 => Sys2Proof.Machine.execNop89 s
  | .txa => Sys2Proof.Machine.execTxa s
  | .xaaImm => Sys2Proof.Machine.execXaaImm s
  | .styAbs => Sys2Proof.Machine.execStyAbs s
  | .staAbs => Sys2Proof.Machine.execStaAbs s
  | .stxAbs => Sys2Proof.Machine.execStxAbs s
  | .saxAbs => Sys2Proof.Machine.execSaxAbs s
  | .bcc => Sys2Proof.Machine.execBcc s
  | .staIzy => Sys2Proof.Machine.execStaIzy s
  | .nop92 => Sys2Proof.Machine.execNop92 s
  | .ahxIzy => Sys2Proof.Machine.execAhxIzy s
  | .styZpx => Sys2Proof.Machine.execStyZpx s
  | .staZpx => Sys2Proof.Machine.execStaZpx s
  | .stxZpy => Sys2Proof.Machine.execStxZpy s
  | .saxZpy => Sys2Proof.Machine.execSaxZpy s
  | .tya => Sys2Proof.Machine.execTya s
  | .staAby => Sys2Proof.Machine.execStaAby s
  | .txs => Sys2Proof.Machine.execTxs s
  | .tasAby => Sys2Proof.Machine.execTasAby s
  | .shyAbx => Sys2Proof.Machine.execShyAbx s
  | .staAbx => Sys2Proof.Machine.execStaAbx s
  | .shxAby => Sys2Proof.Machine.execShxAby s
  | .ahxAby => Sys2Proof.Machine.execAhxAby s
  | .ldyImm => Sys2Proof.Machine.execLdyImm s
  | .ldaIzx => Sys2Proof.Machine.execLdaIzx s
  | .ldxImm => Sys2Proof.Machine.execLdxImm s
  | .laxIzx => Sys2Proof.Machine.execLaxIzx s
  | .ldyZp => Sys2Proof.Machine.execLdyZp s
  | .ldaZp => Sys2Proof.Machine.execLdaZp s
  | .ldxZp => Sys2Proof.Machine.execLdxZp s
  | .laxZp => Sys2Proof.Machine.execLaxZp s
  | .tay => Sys2Proof.Machine.execTay s
  | .ldaImm => Sys2Proof.Machine.execLdaImm s
  | .tax => Sys2Proof.Machine.execTax s
  | .lxaImm => Sys2Proof.Machine.execLxaImm s
  | .ldyAbs => Sys2Proof.Machine.execLdyAbs s
  | .ldaAbs => Sys2Proof.Machine.execLdaAbs s
  | .ldxAbs => Sys2Proof.Machine.execLdxAbs s
  | .laxAbs => Sys2Proof.Machine.execLaxAbs s
  | .bcs => Sys2Proof.Machine.execBcs s
  | .ldaIzy => Sys2Proof.Machine.execLdaIzy s
  | .nopB2 => Sys2Proof.Machine.execNopB2 s
  | .laxIzy => Sys2Proof.Machine.execLaxIzy s
  | .ldyZpx => Sys2Proof.Machine.execLdyZpx s
  | .ldaZpx => Sys2Proof.Machine.execLdaZpx s
  | .ldxZpy => Sys2Proof.Machine.execLdxZpy s
  | .laxZpy => Sys2Proof.Machine.execLaxZpy s
  | .clv => Sys2Proof.Machine.execClv s
  | .ldaAby => Sys2Proof.Machine.execLdaAby s
  | .tsx => Sys2Proof.Machine.execTsx s
  | .lasAby => Sys2Proof.Machine.execLasAby s
  | .ldyAbx => Sys2Proof.Machine.execLdyAbx s
  | .ldaAbx => Sys2Proof.Machine.execLdaAbx s
  | .ldxAby => Sys2Proof.Machine.execLdxAby s
  | .laxAby => Sys2Proof.Machine.execLaxAby s
  | .cpyImm => Sys2Proof.Machine.execCpyImm s
  | .cmpIzx => Sys2Proof.Machine.execCmpIzx s
  | .nopC2 => Sys2Proof.Machine.execNopC2 s
  | .dcpIzx => Sys2Proof.Machine.execDcpIzx s
  | .cpyZp => Sys2Proof.Machine.execCpyZp s
  | .cmpZp => Sys2Proof.Machine.execCmpZp s
  | .decZp => Sys2Proof.Machine.execDecZp s
  | .dcpZp => Sys2Proof.Machine.execDcpZp s
  | .iny => Sys2Proof.Machine.execIny s
  | .cmpImm => Sys2Proof.Machine.execCmpImm s
  | .dex => Sys2Proof.Machine.execDex s
  | .axsImm => Sys2Proof.Machine.execAxsImm s
  | .cpyAbs => Sys2Proof.Machine.execCpyAbs s
  | .cmpAbs => Sys2Proof.Machine.execCmpAbs s
  | .decAbs => Sys2Proof.Machine.execDecAbs s
  | .dcpAbs => Sys2Proof.Machine.execDcpAbs s
  | .bne => Sys2Proof.Machine.execBne s
  | .cmpIzy => Sys2Proof.Machine.execCmpIzy s
  | .nopD2 => Sys2Proof.Machine.execNopD2 s
  | .dcpIzy => Sys2Proof.Machine.execDcpIzy s
  | .nopD4 => Sys2Proof.Machine.execNopD4 s
  | .cmpZpx => Sys2Proof.Machine.execCmpZpx s
  | .decZpx => Sys2Proof.Machine.execDecZpx s
  | .dcpZpx => Sys2Proof.Machine.execDcpZpx s
  | .cld => Sys2Proof.Machine.execCld s
  | .cmpAby => Sys2Proof.Machine.execCmpAby s
  | .nopDA => Sys2Proof.Machine.execNopDA s
  | .dcpAby => Sys2Proof.Machine.execDcpAby s
  | .nopDC => Sys2Proof.Machine.execNopDC s
  | .cmpAbx => Sys2Proof.Machine.execCmpAbx s
  | .decAbx => Sys2Proof.Machine.execDecAbx s
  | .dcpAbx => Sys2Proof.Machine.execDcpAbx s
  | .cpxImm => Sys2Proof.Machine.execCpxImm s
  | .sbcIzx => Sys2Proof.Machine.execSbcIzx s
  | .nopE2 => Sys2Proof.Machine.execNopE2 s
  | .isbIzx => Sys2Proof.Machine.execIsbIzx s
  | .cpxZp => Sys2Proof.Machine.execCpxZp s
  | .sbcZp => Sys2Proof.Machine.execSbcZp s
  | .incZp => Sys2Proof.Machine.execIncZp s
  | .isbZp => Sys2Proof.Machine.execIsbZp s
  | .inx => Sys2Proof.Machine.execInx s
  | .sbcImm => Sys2Proof.Machine.execSbcImm s
  | .nopEA => Sys2Proof.Machine.execNopEA s
  | .sbcEB => Sys2Proof.Machine.execSbcEB s
  | .cpxAbs => Sys2Proof.Machine.execCpxAbs s
  | .sbcAbs => Sys2Proof.Machine.execSbcAbs s
  | .incAbs => Sys2Proof.Machine.execIncAbs s
  | .isbAbs => Sys2Proof.Machine.execIsbAbs s
  | .beq => Sys2Proof.Machine.execBeq s
  | .sbcIzy => Sys2Proof.Machine.execSbcIzy s
  | .nopF2 => Sys2Proof.Machine.execNopF2 s
  | .isbIzy => Sys2Proof.Machine.execIsbIzy s
  | .nopF4 => Sys2Proof.Machine.execNopF4 s
  | .sbcZpx => Sys2Proof.Machine.execSbcZpx s
  | .incZpx => Sys2Proof.Machine.execIncZpx s
  | .isbZpx => Sys2Proof.Machine.execIsbZpx s
  | .sed => Sys2Proof.Machine.execSed s
  | .sbcAby => Sys2Proof.Machine.execSbcAby s
  | .nopFA => Sys2Proof.Machine.execNopFA s
  | .isbAby => Sys2Proof.Machine.execIsbAby s
  | .nopFC => Sys2Proof.Machine.execNopFC s
  | .sbcAbx => Sys2Proof.Machine.execSbcAbx s
  | .incAbx => Sys2Proof.Machine.execIncAbx s
  | .isbAbx => Sys2Proof.Machine.execIsbAbx s

end Sys2Proof.Machine
end

