-- ==== Sys2Proof/Machine/Step.lean ====
section
/-! DEFINITION. One step of the machine (40_cpu_step_addressing.md R160), and placing a word where the next step fetches it. -/
namespace Sys2Proof.Machine

/-- One CPU step, "taken only while `halted` is false" (40_cpu_step_addressing.md R160): the NMI check, the opcode fetch, the
look-up, the instruction, and its tick and trace. -/
def step (s : State) : Host.Outcome State Fault Refusal :=
  if s.halted then .fault .halted
  else
    let f := fetchOpcode (serviceNmi s)
    match decodeOpcode f.1 with
    | none => .fault (.decodeError f.1)
    | some i => afterExec i (f.1 :: peekBytes (i.len - 1) f.2.pc f.2) (exec i f.2)

/-- The address at which `withFetchWord` puts a word: PC, if three bytes can be stored there; else 0x0000
(notes/assumptions/12.md). -/
def State.fetchBase (s : State) : Addr :=
  if placeable s.pc && placeable (s.pc + 1) && placeable (s.pc + 2) then s.pc else 0x0000#16

/-- `s` with the instruction `w` (of `nbits` bits, the bits above them zero, three bytes in all) stored where the next step
fetches: it stands for loading a program from outside. The machine is set running, with no NMI pending and no stop, so that
the very next step runs it (notes/assumptions/5.md, 12.md). -/
def State.withFetchWord (s : State) (nbits w : Nat) : State :=
  placeBytes s.fetchBase (tableBytes nbits w)
    { s with pc := s.fetchBase, halted := false, stop := none, ppu := { s.ppu with nmiPending := false } }

end Sys2Proof.Machine
end

