-- ==== Sys2Proof/Machine/Render.lean ====
section
/-! DEFINITION. Frame composition (48_ppu_render.md): the pure function from PPU state and CHR-ROM to the picture. It is given
pixel by pixel: the background's colour at a pixel, then the sprites painted over it from number 63 down to number 0. -/
namespace Sys2Proof.Machine

/-- `Code(b) = b & 0x3F`: a colour code, 0 to 63 (48_ppu_render.md R401). -/
def colourCode (b : Byte) : Byte := b &&& 0x3F#8

/-- The pattern table base a Control bit selects (48_ppu_render.md R403, R409). -/
def patternBase (upper : Bool) : Nat := if upper then 0x1000 else 0x0000

/-- `TilePixel(base, tile, px, py)`, 0 to 3 (48_ppu_render.md R406). -/
def tilePixel (c : Config) (base : Nat) (tile : Byte) (px py : Nat) : Nat :=
  let lo := chrRead c (base + tile.toNat * 16 + py)
  let hi := chrRead c (base + tile.toNat * 16 + py + 8)
  (bitOf lo (7 - px)).toNat + 2 * (bitOf hi (7 - px)).toNat

/-- `BgPaletteIndex(row, col)` (48_ppu_render.md R405). -/
def bgPaletteIndex (p : Ppu) (row col : Nat) : Nat :=
  let attr := p.vram.read (0x3C0 + (row / 4) * 8 + col / 4)
  let shift := ((row % 4 / 2) * 2 + (col % 4 / 2)) * 2
  (attr >>> shift).toNat % 4

/-- The palette index of a background pixel value `v` in sub-palette `q` (48_ppu_render.md R407). -/
def bgPaletteSlot (q v : Nat) : Nat := if v = 0 then 0 else 1 + 4 * q + (v - 1)

/-- The background's colour at screen row `y`, column `x` (48_ppu_render.md R402 to R407): nametable 0 alone, row-major. -/
def bgColour (c : Config) (p : Ppu) (y x : Nat) : Byte :=
  let row := y / 8
  let col := x / 8
  let tile := p.vram.read (32 * row + col)
  let v := tilePixel c (patternBase p.bgPattern) tile (x % 8) (y % 8)
  colourCode (p.palette.read (bgPaletteSlot (bgPaletteIndex p row col) v))

/-- A sprite's four bytes (48_ppu_render.md R408). -/
def sprY (p : Ppu) (n : Nat) : Nat := (p.oam.read (4 * n)).toNat
/-- The tile index (48_ppu_render.md R408). -/
def sprTile (p : Ppu) (n : Nat) : Byte := p.oam.read (4 * n + 1)
/-- The attributes (48_ppu_render.md R408). -/
def sprAttr (p : Ppu) (n : Nat) : Byte := p.oam.read (4 * n + 2)
/-- The left edge (48_ppu_render.md R408). -/
def sprX (p : Ppu) (n : Nat) : Nat := (p.oam.read (4 * n + 3)).toNat

/-- The 2-bit value that sprite `n` has at screen row `y`, column `x`, 0 where it does not reach (48_ppu_render.md R411):
`sx` and `sy` do not wrap, and a flip mirrors the tile. -/
def spritePixel (c : Config) (p : Ppu) (n y x : Nat) : Nat :=
  if sprX p n ≤ x ∧ x < sprX p n + 8 ∧ sprY p n ≤ y ∧ y < sprY p n + 8 then
    let dx := x - sprX p n
    let dy := y - sprY p n
    tilePixel c (patternBase p.sprPattern) (sprTile p n)
      (if bitOf (sprAttr p n) 6 then 7 - dx else dx) (if bitOf (sprAttr p n) 7 then 7 - dy else dy)
  else 0

/-- The colour of a sprite pixel value `v` = 1, 2, 3 (48_ppu_render.md R410, R411). -/
def spriteColour (p : Ppu) (n v : Nat) : Byte :=
  colourCode (p.palette.read (0x11 + 4 * ((sprAttr p n).toNat % 4) + (v - 1)))

/-- Paint sprite `n` over what is there: value 0 is transparent (48_ppu_render.md R410, R411). -/
def paintSprite (c : Config) (p : Ppu) (y x : Nat) (under : Byte) (n : Nat) : Byte :=
  let v := spritePixel c p n y x
  if v = 0 then under else spriteColour p n v

/-- The sprites in the order they are drawn: 63, 62, …, 0 (48_ppu_render.md R408, R412). -/
def spriteOrder : List Nat := (List.range 64).reverse

/-- `frame[y][x]` (48_ppu_render.md R401, R412). -/
def framePixel (c : Config) (p : Ppu) (y x : Nat) : Byte :=
  spriteOrder.foldl (paintSprite c p y x) (bgColour c p y x)

/-- `Frame()`: 240 rows of 256 colour codes (48_ppu_render.md R401), from the state at the moment of the call (R400). -/
def frame (s : State) : List (List Byte) :=
  (List.range 240).map fun y => (List.range 256).map fun x => framePixel s.cfg s.ppu y x

end Sys2Proof.Machine
end

