-- ==== Sys2Proof/Machine/Reset.lean ====
section
/-! DEFINITION. Reset, power-on and boot: what the host does to the machine from outside (70_reset_and_hazards.md R490 to R495,
49_devices.md R435, R436). -/
namespace Sys2Proof.Machine

/-- `Reset()`, the CPU reset (70_reset_and_hazards.md R491): CPU registers and `halted` only; two Bus reads of the vector, no
tick. Nothing of the strict machine's `stop` is left (R491: reset "is the only way out of `halted`"). -/
def cpuReset (s : State) : State :=
  let v := busRead16 0xFFFC#16
    { s with a := 0x00, x := 0x00, y := 0x00, sp := 0xFD, p := 0x24, halted := false, stop := none }
  v.2.setPc v.1

/-- The machine as constructed around a configuration, before the CPU reset (70_reset_and_hazards.md R490 steps 2 to 4). The
CPU registers hold what the reset that follows overwrites. -/
def constructed (cfg : Config) (ram vram palette oam : Memory) (input : List (Byte × Byte)) : State :=
  { a := 0, x := 0, y := 0, sp := 0, pc := 0, p := 0, halted := false,
    ram := ram, cycles := 0, ppu := Ppu.powerOn vram palette oam,
    joy0 := Joypad.powerOn, joy1 := Joypad.powerOn, cfg := cfg, input := input, events := [], stop := none }

/-- Power-on of a machine around a configuration, with the OPEN parameters RAM_INIT, VRAM_INIT, PALETTE_INIT, OAM_INIT
(70_reset_and_hazards.md R490, R495) and the host's input to come: construction, then a CPU reset. -/
def powerOn (cfg : Config) (ram vram palette oam : Memory) (input : List (Byte × Byte)) : State :=
  cpuReset (constructed cfg ram vram palette oam input)

/-- Load an iNES image and power on (70_reset_and_hazards.md R490 step 1): a malformed image is a FormatError
(60_exceptions.md R451), an image outside R436 is refused. -/
def boot (img : List Byte) (strict : Bool) (ram vram palette oam : Memory) (input : List (Byte × Byte)) :
    Host.Outcome State Fault Refusal :=
  match parseINes img with
  | .error e => .fault (.formatError e)
  | .ok im =>
    match admitImage im strict with
    | none => .refused .cartridgeNotAdmitted
    | some cfg => .next (powerOn cfg ram vram palette oam input)

end Sys2Proof.Machine
end

