-- ==== Sys2Proof/Safety.lean ====
section
/-! DEFINITION. The terms the claims use: a permissive machine, the invariants of the state (10_state.md R27, R34, R39;
47_ppu_registers.md R354; 49_devices.md R423), and the shapes in which an instruction's effect and its frame are said. -/
namespace Sys2Proof.Machine

/-- STRICT is false, the configuration every rule of the spec assumes (60_exceptions.md R455), and no stop is being computed. -/
def State.Permissive (s : State) : Prop := s.cfg.strict = false ∧ s.stop = none

/-- BREAK is 0 and BREAK2 is 1 in the register (10_state.md R27). -/
def State.StatusBits (s : State) : Prop := s.flagB = false ∧ s.flagU = true

/-- Every byte array is in canonical form and inside its size. -/
def State.MemoryWf (s : State) : Prop :=
  (s.ram.wf = true ∧ s.ram.below 0x800 = true) ∧ (s.ppu.vram.wf = true ∧ s.ppu.vram.below 0x800 = true) ∧
  (s.ppu.palette.wf = true ∧ s.ppu.palette.below 32 = true) ∧ (s.ppu.oam.wf = true ∧ s.ppu.oam.below 256 = true)

/-- The scanline and the cycle are in their ranges between ticks (10_state.md R39). -/
def Ppu.ClockRange (p : Ppu) : Prop := p.scanline < 262 ∧ p.cycle < 341

/-- "`ppu.cycle = (3 × bus.cycles) mod 341` and `ppu.scanline = ((3 × bus.cycles) div 341) mod 262`"
(47_ppu_registers.md R354). -/
def State.ClockLocked (s : State) : Prop :=
  s.ppu.cycle = (3 * s.cycles) % 341 ∧ s.ppu.scanline = (3 * s.cycles) / 341 % 262

/-- VBLANK and a pending NMI exist only on scanlines 241 to 261 (47_ppu_registers.md R354). -/
def Ppu.VblankRange (p : Ppu) : Prop :=
  (p.vblank = true → 241 ≤ p.scanline) ∧ (p.nmiPending = true → 241 ≤ p.scanline)

/-- "a Status read returns 0x80 or 0x00" (10_state.md R34). -/
def Ppu.StatusShape (p : Ppu) : Prop := p.status = 0x00#8 ∨ p.status = 0x80#8

/-- The strobe holds the index at 0, and the index stays 0 to 8 (49_devices.md R423, 10_state.md R45). -/
def Joypad.Legal (j : Joypad) : Prop := (j.strobe = true → j.index = 0) ∧ j.index ≤ 8

/-- The invariant of the machine. -/
def State.Inv (s : State) : Prop :=
  s.StatusBits ∧ s.MemoryWf ∧ s.ppu.ClockRange ∧ s.ppu.VblankRange ∧ s.ppu.StatusShape ∧
  s.joy0.Legal ∧ s.joy1.Legal ∧ s.stop = none

/-! ### How an effect and its frame are said -/

/-- How many operand bytes a data mode has: two for the absolute modes, one for the others (30_encoding.md R132). -/
def operandBytes : DataMode → Nat
  | .abs | .abx | .aby => 2
  | .imm | .zp | .zpx | .zpy | .izx | .izy => 1

/-- `M = MemRead(EA, 1)` and the state after every Bus read that yields it (40_cpu_step_addressing.md, section 2). -/
def operand (m : DataMode) (s : State) : Byte × State := busRead (effAddr m s).1 (effAddr m s).2

/-- The four 8-bit registers of `t`. -/
def State.Regs (t : State) (a x y sp : Byte) : Prop := t.a = a ∧ t.x = x ∧ t.y = y ∧ t.sp = sp

/-- Every bit of P but the listed ones is in `t` as in `s`. -/
def State.KeepsFlags (changed : List Nat) (s t : State) : Prop := ∀ k, k ∉ changed → t.p.getLsbD k = s.p.getLsbD k

/-- Z says that the value is 0 and N is its bit 7 (00_scope.md R11). -/
def State.HasZN (v : Byte) (t : State) : Prop := t.flagZ = decide (v.toNat = 0) ∧ t.flagN = decide (128 ≤ v.toNat)

/-- Z and N come from the value, every other bit of P is kept. -/
def State.ZNOnly (v : Byte) (s t : State) : Prop := t.HasZN v ∧ s.KeepsFlags [bitZ, bitN] t

/-- Every byte of memory reads in `t` as in `s`: RAM, VRAM, the palette, OAM, and PRG and CHR (the configuration). -/
def State.SameMemory (s t : State) : Prop :=
  (∀ k, t.ram.read k = s.ram.read k) ∧ (∀ k, t.ppu.vram.read k = s.ppu.vram.read k) ∧
  (∀ k, t.ppu.palette.read k = s.ppu.palette.read k) ∧ (∀ k, t.ppu.oam.read k = s.ppu.oam.read k) ∧ t.cfg = s.cfg

/-- What no instruction's effect touches: the cycle count, the configuration and the host's input; and nothing stopped. -/
def State.SameRun (s t : State) : Prop :=
  t.cycles = s.cycles ∧ t.cfg = s.cfg ∧ t.input = s.input ∧ t.stop = none

/-- The devices and the record of `t` are those of `u`. -/
def State.SameDevices (u t : State) : Prop :=
  t.ppu = u.ppu ∧ t.joy0 = u.joy0 ∧ t.joy1 = u.joy1 ∧ t.events = u.events

/-- The frame of a store of byte `v` at CPU address `ea`: the RAM byte it lands on, and no other byte of RAM; VRAM and the
palette only by way of 0x2007, OAM only by way of 0x2004 and 0x4014; PRG and CHR never (20_memory.md R73). -/
def State.StoreFrame (ea : Addr) (v : Byte) (s t : State) : Prop :=
  (ea.toNat < 0x2000 → t.ram.read (ea.toNat % 0x800) = v) ∧
  (∀ k, ea.toNat < 0x2000 ∧ k ≠ ea.toNat % 0x800 ∨ 0x2000 ≤ ea.toNat → t.ram.read k = s.ram.read k) ∧
  (¬ (0x2000 ≤ ea.toNat ∧ ea.toNat < 0x4000 ∧ ea.toNat % 8 = 7) →
    ∀ k, t.ppu.vram.read k = s.ppu.vram.read k ∧ t.ppu.palette.read k = s.ppu.palette.read k) ∧
  (¬ (0x2000 ≤ ea.toNat ∧ ea.toNat < 0x4000 ∧ ea.toNat % 8 = 4) → ea.toNat ≠ 0x4014 →
    ∀ k, t.ppu.oam.read k = s.ppu.oam.read k) ∧
  t.cfg = s.cfg

/-- An instruction with no operand: it answers a next state, PC stays past the opcode, and only what `effect` says changes in
the registers and in P. -/
def Implied (i : Instr) (effect : State → State → Prop) : Prop :=
  ∀ s : State, s.Permissive →
    ∃ t, exec i s = .next t ∧ effect s t ∧ t.pc = s.pc ∧ t.halted = s.halted ∧
      s.SameMemory t ∧ s.SameRun t ∧ s.SameDevices t

/-- An instruction that reads an operand and stores nothing, in each of its forms: it answers a next state; the registers and P
are as `effect` says of the operand; every byte of memory reads as before; the devices are as the reads left them. -/
def Reads (forms : List (Instr × DataMode)) (effect : State → Byte → State → Prop) : Prop :=
  ∀ f ∈ forms, ∀ s : State, s.Permissive →
    ∃ t, exec f.1 s = .next t ∧ effect s (operand f.2 s).1 t ∧
      t.pc = s.pc + BitVec.ofNat 16 (operandBytes f.2) ∧ t.halted = s.halted ∧
      s.SameMemory t ∧ s.SameRun t ∧ (operand f.2 s).2.SameDevices t

/-- An instruction that stores a byte, in each of its forms: it answers a next state; it writes `value` at the effective address,
computed as the meaning computes it, once, after the reads of its operand bytes; the registers and P are as `effect` says. -/
def Stores (forms : List (Instr × DataMode)) (value : State → Addr → Byte) (effect : State → State → Prop) : Prop :=
  ∀ f ∈ forms, ∀ s : State, s.Permissive → s.MemoryWf →
    ∃ t, exec f.1 s = .next t ∧ effect s t ∧
      t.pc = s.pc + BitVec.ofNat 16 (operandBytes f.2) ∧ t.halted = s.halted ∧
      s.StoreFrame (effAddr f.2 s).1 (value s (effAddr f.2 s).1) t ∧ s.SameRun t ∧
      (busWrite (effAddr f.2 s).1 (value s (effAddr f.2 s).1) (effAddr f.2 s).2).SameDevices t

/-- A read-modify-write instruction, in each of its forms: it answers a next state; it reads the operand once and writes
`value` of it back to the same address once; the registers and P are as `effect` says of the operand. -/
def Modifies (forms : List (Instr × DataMode)) (value : Bool → Byte → Byte) (effect : State → Byte → State → Prop) : Prop :=
  ∀ f ∈ forms, ∀ s : State, s.Permissive → s.MemoryWf →
    ∃ t, exec f.1 s = .next t ∧ effect s (operand f.2 s).1 t ∧
      t.pc = s.pc + BitVec.ofNat 16 (operandBytes f.2) ∧ t.halted = s.halted ∧
      s.StoreFrame (effAddr f.2 s).1 (value s.flagC (operand f.2 s).1) t ∧ s.SameRun t ∧
      (busWrite (effAddr f.2 s).1 (value s.flagC (operand f.2 s).1) (operand f.2 s).2).SameDevices t

/-- The result and flags of an addition `a + m + c` (42_arith_logic.md R210, R230): the sum modulo 256, the unsigned carry out,
the signed overflow, Z and N; D is neither read nor changed (R231). -/
def State.Added (a m : Byte) (c : Bool) (s t : State) : Prop :=
  t.a.toNat = (a.toNat + m.toNat + c.toNat) % 256 ∧
  t.flagC = decide (256 ≤ a.toNat + m.toNat + c.toNat) ∧
  t.flagV = decide (a.toInt + m.toInt + c.toNat < -128 ∨ 127 < a.toInt + m.toInt + c.toNat) ∧
  t.HasZN t.a ∧ s.KeepsFlags [bitC, bitZ, bitV, bitN] t

/-- The result and flags of a subtraction `a - m - (1 - c)` (42_arith_logic.md R212, R230): the difference modulo 256, C when no
borrow occurred, the signed overflow, Z and N. -/
def State.Subtracted (a m : Byte) (c : Bool) (s t : State) : Prop :=
  t.a.toNat = (a.toNat + 255 - m.toNat + c.toNat) % 256 ∧
  t.flagC = decide (m.toNat + (1 - c.toNat) ≤ a.toNat) ∧
  t.flagV = decide (a.toInt - m.toInt - (1 - (c.toNat : Int)) < -128 ∨ 127 < a.toInt - m.toInt - (1 - (c.toNat : Int))) ∧
  t.HasZN t.a ∧ s.KeepsFlags [bitC, bitZ, bitV, bitN] t

/-- The flags of a compare of register value `r` with `m` (42_arith_logic.md R216): C when `m ≤ r` unsigned, Z when they are
equal, N bit 7 of the difference; V and the others kept. -/
def State.Compared (r m : Byte) (s t : State) : Prop :=
  t.flagC = decide (m.toNat ≤ r.toNat) ∧ t.flagZ = decide (m = r) ∧
  t.flagN = decide (128 ≤ (r.toNat + 256 - m.toNat) % 256) ∧ s.KeepsFlags [bitC, bitZ, bitN] t

/-- C, Z and N after a shift with the carry out `c` and the result `v`; the other flags kept (43_shift_rotate.md R240). -/
def State.Shifted (c : Bool) (v : Byte) (s t : State) : Prop :=
  t.flagC = c ∧ t.HasZN v ∧ s.KeepsFlags [bitC, bitZ, bitN] t

/-- The four shifts as arithmetic: double, halve, and the same with the carry-in at the free end (43_shift_rotate.md R240). -/
def doubled (_c : Bool) (v : Byte) : Byte := BitVec.ofNat 8 (2 * v.toNat)
/-- LSR's result. -/
def halved (_c : Bool) (v : Byte) : Byte := BitVec.ofNat 8 (v.toNat / 2)
/-- ROL's result. -/
def rotatedUp (c : Bool) (v : Byte) : Byte := BitVec.ofNat 8 (2 * v.toNat + c.toNat)
/-- ROR's result. -/
def rotatedDown (c : Bool) (v : Byte) : Byte := BitVec.ofNat 8 (v.toNat / 2 + 128 * c.toNat)

/-! ### What a strict machine stops on -/

/-- The InvalidAccess that a Bus read at `a` raises, if it raises one: the write-only PPU registers 0x2000, 0x2001, 0x2003,
0x2005, 0x2006 and their mirrors (60_exceptions.md R453). -/
def readStop (a : Addr) : Option Stop :=
  if 0x2000 ≤ a.toNat ∧ a.toNat < 0x4000 ∧ a.toNat % 8 ∈ [0, 1, 3, 5, 6] then some ⟨.readWriteOnly, a⟩ else none

/-- The InvalidAccess that a Bus write at `a` raises, if it raises one: Status and its mirrors, and ROM (60_exceptions.md R453). -/
def writeStop (a : Addr) : Option Stop :=
  if 0x2000 ≤ a.toNat ∧ a.toNat < 0x4000 ∧ a.toNat % 8 = 2 then some ⟨.writeStatus, a⟩
  else if 0x8000 ≤ a.toNat then some ⟨.writeRom, a⟩ else none

/-- The first of two reads that raises one, at an address and the next (20_memory.md R100). -/
def wordStop (a : Addr) : Option Stop := (readStop a).or (readStop (a + 1))

/-- The outcome that an InvalidAccess gives a step of a strict machine (60_exceptions.md R455; notes/assumptions/3.md). -/
def stopped (r : Stop) : Host.Outcome State Fault Refusal := .fault (.invalidAccess r.kind r.addr)

/-- LDA, LDX, LDY in every mode. -/
def loadForms : List (Instr × DataMode) :=
  [(.ldaIzx, .izx), (.ldaZp, .zp), (.ldaImm, .imm), (.ldaAbs, .abs), (.ldaIzy, .izy), (.ldaZpx, .zpx), (.ldaAby, .aby),
   (.ldaAbx, .abx), (.ldxImm, .imm), (.ldxZp, .zp), (.ldxAbs, .abs), (.ldxZpy, .zpy), (.ldxAby, .aby), (.ldyImm, .imm),
   (.ldyZp, .zp), (.ldyAbs, .abs), (.ldyZpx, .zpx), (.ldyAbx, .abx)]

/-- ADC, SBC, CMP, CPX, CPY in every mode. -/
def arithForms : List (Instr × DataMode) :=
  [(.adcIzx, .izx), (.adcZp, .zp), (.adcImm, .imm), (.adcAbs, .abs), (.adcIzy, .izy), (.adcZpx, .zpx), (.adcAby, .aby),
   (.adcAbx, .abx), (.sbcIzx, .izx), (.sbcZp, .zp), (.sbcImm, .imm), (.sbcEB, .imm), (.sbcAbs, .abs), (.sbcIzy, .izy),
   (.sbcZpx, .zpx), (.sbcAby, .aby), (.sbcAbx, .abx), (.cmpIzx, .izx), (.cmpZp, .zp), (.cmpImm, .imm), (.cmpAbs, .abs),
   (.cmpIzy, .izy), (.cmpZpx, .zpx), (.cmpAby, .aby), (.cmpAbx, .abx), (.cpxImm, .imm), (.cpxZp, .zp), (.cpxAbs, .abs),
   (.cpyImm, .imm), (.cpyZp, .zp), (.cpyAbs, .abs)]

/-- AND, ORA, EOR, BIT in every mode. -/
def logicForms : List (Instr × DataMode) :=
  [(.andIzx, .izx), (.andZp, .zp), (.andImm, .imm), (.andAbs, .abs), (.andIzy, .izy), (.andZpx, .zpx), (.andAby, .aby),
   (.andAbx, .abx), (.oraIzx, .izx), (.oraZp, .zp), (.oraImm, .imm), (.oraAbs, .abs), (.oraIzy, .izy), (.oraZpx, .zpx),
   (.oraAby, .aby), (.oraAbx, .abx), (.eorIzx, .izx), (.eorZp, .zp), (.eorImm, .imm), (.eorAbs, .abs), (.eorIzy, .izy),
   (.eorZpx, .zpx), (.eorAby, .aby), (.eorAbx, .abx), (.bitZp, .zp), (.bitAbs, .abs)]

/-- The unofficial opcodes that read an operand and store nothing. -/
def unofficialReadForms : List (Instr × DataMode) :=
  [(.laxIzx, .izx), (.laxZp, .zp), (.laxAbs, .abs), (.laxIzy, .izy), (.laxZpy, .zpy), (.laxAby, .aby), (.lxaImm, .imm),
   (.xaaImm, .imm), (.lasAby, .aby), (.anc0B, .imm), (.anc2B, .imm), (.alrImm, .imm), (.arrImm, .imm), (.axsImm, .imm)]

/-- The NOPs that read memory (46_unofficial.md R317). -/
def nopReadForms : List (Instr × DataMode) :=
  [(.nop04, .zp), (.nop0C, .abs), (.nop14, .zpx), (.nop1C, .abx), (.nop34, .zpx), (.nop3C, .abx), (.nop44, .zp),
   (.nop54, .zpx), (.nop5C, .abx), (.nop64, .zp), (.nop74, .zpx), (.nop7C, .abx), (.nopD4, .zpx), (.nopDC, .abx),
   (.nopF4, .zpx), (.nopFC, .abx)]

/-- Every form that reads its operand and stores nothing. -/
def readForms : List (Instr × DataMode) :=
  loadForms ++ arithForms ++ logicForms ++ unofficialReadForms ++ nopReadForms

/-- Every form that stores without reading its target. -/
def storeForms : List (Instr × DataMode) :=
  [(.staIzx, .izx), (.staZp, .zp), (.staAbs, .abs), (.staIzy, .izy), (.staZpx, .zpx), (.staAby, .aby), (.staAbx, .abx),
   (.stxZp, .zp), (.stxAbs, .abs), (.stxZpy, .zpy), (.styZp, .zp), (.styAbs, .abs), (.styZpx, .zpx), (.saxIzx, .izx),
   (.saxZp, .zp), (.saxAbs, .abs), (.saxZpy, .zpy), (.tasAby, .aby), (.ahxIzy, .izy), (.ahxAby, .aby), (.shxAby, .aby),
   (.shyAbx, .abx)]

/-- The official read-modify-write forms. -/
def shiftForms : List (Instr × DataMode) :=
  [(.aslZp, .zp), (.aslAbs, .abs), (.aslZpx, .zpx), (.aslAbx, .abx), (.lsrZp, .zp), (.lsrAbs, .abs), (.lsrZpx, .zpx),
   (.lsrAbx, .abx), (.rolZp, .zp), (.rolAbs, .abs), (.rolZpx, .zpx), (.rolAbx, .abx), (.rorZp, .zp), (.rorAbs, .abs),
   (.rorZpx, .zpx), (.rorAbx, .abx), (.incZp, .zp), (.incAbs, .abs), (.incZpx, .zpx), (.incAbx, .abx), (.decZp, .zp),
   (.decAbs, .abs), (.decZpx, .zpx), (.decAbx, .abx)]

/-- The unofficial read-modify-write forms. -/
def compositeForms : List (Instr × DataMode) :=
  [(.sloIzx, .izx), (.sloZp, .zp), (.sloAbs, .abs), (.sloIzy, .izy), (.sloZpx, .zpx), (.sloAby, .aby), (.sloAbx, .abx),
   (.rlaIzx, .izx), (.rlaZp, .zp), (.rlaAbs, .abs), (.rlaIzy, .izy), (.rlaZpx, .zpx), (.rlaAby, .aby), (.rlaAbx, .abx),
   (.sreIzx, .izx), (.sreZp, .zp), (.sreAbs, .abs), (.sreIzy, .izy), (.sreZpx, .zpx), (.sreAby, .aby), (.sreAbx, .abx),
   (.rraIzx, .izx), (.rraZp, .zp), (.rraAbs, .abs), (.rraIzy, .izy), (.rraZpx, .zpx), (.rraAby, .aby), (.rraAbx, .abx),
   (.dcpIzx, .izx), (.dcpZp, .zp), (.dcpAbs, .abs), (.dcpIzy, .izy), (.dcpZpx, .zpx), (.dcpAby, .aby), (.dcpAbx, .abx),
   (.isbIzx, .izx), (.isbZp, .zp), (.isbAbs, .abs), (.isbIzy, .izy), (.isbZpx, .zpx), (.isbAby, .aby), (.isbAbx, .abx)]

/-- Every read-modify-write form (40_cpu_step_addressing.md R179). -/
def modifyForms : List (Instr × DataMode) := shiftForms ++ compositeForms

/-- Which operand bytes a mode reads before its effective address is known: none, one, or two (40_cpu_step_addressing.md R166 to
R173). The immediate mode's byte is the operand itself. -/
def operandStop (m : DataMode) (a : Addr) : Option Stop :=
  match m with
  | .imm => none
  | .zp | .zpx | .zpy | .izx | .izy => readStop a
  | .abs | .abx | .aby => wordStop a

/-! ### The picture as arithmetic -/

/-- Bit `k` of a byte as 0 or 1. -/
def bitAt (b : Byte) (k : Nat) : Nat := b.toNat / 2 ^ k % 2

/-- The pixel value 0 to 3 of a tile of a pattern table, from its two bit planes, bit 7 leftmost (48_ppu_render.md R403, R406,
R409). -/
def tileValue (c : Config) (upper : Bool) (tile : Byte) (px py : Nat) : Nat :=
  let at' := (if upper then 0x1000 else 0) + 16 * tile.toNat + py
  bitAt (c.chr.read at') (7 - px) + 2 * bitAt (c.chr.read (at' + 8)) (7 - px)

end Sys2Proof.Machine
end

