-- ==== Sys2Proof/Certificates/Slice0/Obligations.lean ====
section
/-! DEFINITION. The statements for the provers. Each docstring names the rule it formalises; the shapes Implied, Reads, Stores and
Modifies, which say the completion and the frame of an instruction, are in Safety.lean. -/
open Sys2Proof Sys2Proof.Machine

/-- Decoding the bytes of a well-formed instruction gives it back, with every operand byte. All 256 constructors, each with every value of its operand bytes (30_encoding.md R130, R131). Also, of the decisions of the spec: R131 carries D2. -/
def Obligations.DecodeOfEncode : Prop :=
  ∀ (c : Code) (rest : List Byte), c.WellFormed = true → decode (encode c ++ rest) = .ok (c, rest)

/-- What decodes is a well-formed instruction whose encoding is exactly the bytes it was read from. The other direction of the round trip: no byte is dropped and no two instructions share bytes. Also, of the decisions of the spec: R134 carries D2 and D3 and D4. -/
def Obligations.EncodeOfDecode : Prop :=
  ∀ (bytes rest : List Byte) (c : Code), decode bytes = .ok (c, rest) → c.WellFormed = true ∧ encode c ++ rest = bytes

/-- There is no illegal opcode: three bytes always decode, and to the instruction of that opcode byte. 30_encoding.md R137. -/
def Obligations.EveryOpcodeDecodes : Prop :=
  ∀ (b b1 b2 : Byte) (more : List Byte),
    ∃ c rest, decode (b :: b1 :: b2 :: more) = .ok (c, rest) ∧ c.op.desc.opcode = b

/-- A word of each layout, written out from the table, decodes to its instruction. Bytes from the examples of the instruction rules (41 to 46) and the opcode table. -/
def Obligations.DecodeTableWords : Prop :=
  decode [0xA9, 0x05] = .ok (⟨.ldaImm, [0x05]⟩, []) ∧ decode [0xAD, 0x02, 0x20] = .ok (⟨.ldaAbs, [0x02, 0x20]⟩, []) ∧
  decode [0x6C, 0x20, 0x01] = .ok (⟨.jmpInd, [0x20, 0x01]⟩, []) ∧ decode [0x91, 0x10] = .ok (⟨.staIzy, [0x10]⟩, []) ∧
  decode [0xD0, 0xFB] = .ok (⟨.bne, [0xFB]⟩, []) ∧ decode [0x0A] = .ok (⟨.aslAcc, []⟩, []) ∧
  decode [0x00, 0xEA] = .ok (⟨.brk, []⟩, [0xEA]) ∧ decode [0xEA] = .ok (⟨.nopEA, []⟩, []) ∧
  decode [0x07, 0x10] = .ok (⟨.sloZp, [0x10]⟩, []) ∧ decode [0x9C, 0x00, 0x02] = .ok (⟨.shyAbx, [0x00, 0x02]⟩, [])

/-- A step runs the instruction that the bytes at PC decode to, with PC past the opcode byte, then retires it. R160 carries decision D30 (the NMI entry and the instruction are one step here; notes/assumptions/13.md). The operand bytes that the trace shows, by peekBytes, are the model's choice (DESIGN CHOICE, notes/assumptions/7.md); no rule reads them. R160 is marked derived, in whole or in part, in the spec. -/
def Obligations.StepRunsTheDecodedInstruction : Prop :=
  ∀ (s : State) (c : Code) (rest : List Byte), s.halted = false → s.ppu.nmiPending = false →
    decode (peekBytes 3 s.pc s) = .ok (c, rest) →
    let u := (busRead s.pc s).2.setPc (s.pc + 1)
    step s = afterExec c.op ((busRead s.pc s).1 :: peekBytes (c.op.len - 1) (s.pc + 1) u) (exec c.op u)

/-- A pending NMI is taken at the top of the step, whatever P.I holds, and the step goes on with the instruction at the vector. R457, R458 and R459 with the step of R160, whose order carries decision D30 (notes/assumptions/13.md). The operand bytes that the trace shows, by peekBytes, are the model's choice (DESIGN CHOICE, notes/assumptions/7.md). R457, R459 are marked derived, in whole or in part, in the spec. -/
def Obligations.PendingNmiIsTakenBeforeTheFetch : Prop :=
  ∀ (s : State) (c : Code) (rest : List Byte), s.halted = false → s.ppu.nmiPending = true →
    let n := nmiEntry { s with ppu := { s.ppu with nmiPending := false } }
    decode (peekBytes 3 n.pc n) = .ok (c, rest) →
    let u := (busRead n.pc n).2.setPc (n.pc + 1)
    step s = afterExec c.op ((busRead n.pc n).1 :: peekBytes (c.op.len - 1) (n.pc + 1) u) (exec c.op u)

/-- A step that leaves the machine running charges the instruction its table cost, once, and traces it last. R508 carries decision D4 (the numbers of the table); the trace bytes follow notes/assumptions/7.md. -/
def Obligations.StepChargesTheTableCost : Prop :=
  ∀ s t : State, s.ppu.nmiPending = false → step s = .next t → t.halted = false →
    ∃ i bytes, decodeOpcode (busRead s.pc s).1 = some i ∧ t.cycles = s.cycles + i.cycles ∧
      t.events.head? = some (.trace t.a t.x t.y t.sp t.p t.pc bytes i) ∧ bytes.length = i.len

/-- Every instruction answers a next state in a permissive machine, and leaves the machine permissive. All 256 constructors. R455 carries decision D1 (permissive is the default). Also, of the decisions of the spec: R470 carries D36. -/
def Obligations.EveryInstructionCompletes : Prop :=
  ∀ (i : Instr) (s : State), s.Permissive →
    ∃ t, exec i s = .next t ∧ t.Permissive ∧ t.cfg = s.cfg ∧ t.cycles = s.cycles ∧ t.input = s.input

/-- Only BRK halts the machine, no instruction clears halted, and a halted machine takes no step. R28 and R262 carry decision D7; that the step then answers a fault is the model's (notes/assumptions/2.md). -/
def Obligations.OnlyBrkHalts : Prop :=
  (∀ (i : Instr) (s t : State), exec i s = .next t → (t.halted = true ↔ s.halted = true ∨ i = .brk)) ∧
  (∀ s : State, s.halted = true → step s = .fault .halted)

/-- LDA, LDX and LDY put the operand into their register and set Z and N from it; nothing else changes. 41_load_store_transfer.md R190, R191, R192. -/
def Obligations.Loads : Prop :=
  Reads [(.ldaIzx, .izx), (.ldaZp, .zp), (.ldaImm, .imm), (.ldaAbs, .abs), (.ldaIzy, .izy), (.ldaZpx, .zpx), (.ldaAby, .aby), (.ldaAbx, .abx)]
    (fun s m t => t.Regs m s.x s.y s.sp ∧ s.ZNOnly m t) ∧
  Reads [(.ldxImm, .imm), (.ldxZp, .zp), (.ldxAbs, .abs), (.ldxZpy, .zpy), (.ldxAby, .aby)]
    (fun s m t => t.Regs s.a m s.y s.sp ∧ s.ZNOnly m t) ∧
  Reads [(.ldyImm, .imm), (.ldyZp, .zp), (.ldyAbs, .abs), (.ldyZpx, .zpx), (.ldyAbx, .abx)]
    (fun s m t => t.Regs s.a s.x m s.sp ∧ s.ZNOnly m t)

/-- STA, STX and STY store their register at the effective address; no register and no flag changes. 41_load_store_transfer.md R193, R194, R195. -/
def Obligations.RegisterStores : Prop :=
  Stores [(.staIzx, .izx), (.staZp, .zp), (.staAbs, .abs), (.staIzy, .izy), (.staZpx, .zpx), (.staAby, .aby), (.staAbx, .abx)]
    (fun s _ => s.a) (fun s t => t.Regs s.a s.x s.y s.sp ∧ t.p = s.p) ∧
  Stores [(.stxZp, .zp), (.stxAbs, .abs), (.stxZpy, .zpy)] (fun s _ => s.x) (fun s t => t.Regs s.a s.x s.y s.sp ∧ t.p = s.p) ∧
  Stores [(.styZp, .zp), (.styAbs, .abs), (.styZpx, .zpx)] (fun s _ => s.y) (fun s t => t.Regs s.a s.x s.y s.sp ∧ t.p = s.p)

/-- The six register transfers: the destination, Z and N, and that TXS sets no flag. 41_load_store_transfer.md R196 to R201. -/
def Obligations.Transfers : Prop :=
  Implied .tax (fun s t => t.Regs s.a s.a s.y s.sp ∧ s.ZNOnly s.a t) ∧
  Implied .tay (fun s t => t.Regs s.a s.x s.a s.sp ∧ s.ZNOnly s.a t) ∧
  Implied .tsx (fun s t => t.Regs s.a s.sp s.y s.sp ∧ s.ZNOnly s.sp t) ∧
  Implied .txa (fun s t => t.Regs s.x s.x s.y s.sp ∧ s.ZNOnly s.x t) ∧
  Implied .txs (fun s t => t.Regs s.a s.x s.y s.x ∧ t.p = s.p) ∧
  Implied .tya (fun s t => t.Regs s.y s.x s.y s.sp ∧ s.ZNOnly s.y t)

/-- ADC adds the operand and the carry in binary: the sum modulo 256, carry out, signed overflow, Z, N; D plays no part. 42_arith_logic.md R211 with R210 and R230. -/
def Obligations.AdcAdds : Prop :=
  Reads [(.adcIzx, .izx), (.adcZp, .zp), (.adcImm, .imm), (.adcAbs, .abs), (.adcIzy, .izy), (.adcZpx, .zpx), (.adcAby, .aby), (.adcAbx, .abx)]
    (fun s m t => t.Regs t.a s.x s.y s.sp ∧ s.Added s.a m s.flagC t)

/-- SBC, and the unofficial 0xEB, subtract the operand and the borrow: the difference, C for no borrow, signed overflow, Z, N. 42_arith_logic.md R212; 46_unofficial.md R313. -/
def Obligations.SbcSubtracts : Prop :=
  Reads [(.sbcIzx, .izx), (.sbcZp, .zp), (.sbcImm, .imm), (.sbcEB, .imm), (.sbcAbs, .abs), (.sbcIzy, .izy), (.sbcZpx, .zpx), (.sbcAby, .aby), (.sbcAbx, .abx)]
    (fun s m t => t.Regs t.a s.x s.y s.sp ∧ s.Subtracted s.a m s.flagC t)

/-- AND, ORA and EOR combine A with the operand and set Z and N from the result. 42_arith_logic.md R213, R214, R215. -/
def Obligations.LogicOps : Prop :=
  Reads [(.andIzx, .izx), (.andZp, .zp), (.andImm, .imm), (.andAbs, .abs), (.andIzy, .izy), (.andZpx, .zpx), (.andAby, .aby), (.andAbx, .abx)]
    (fun s m t => t.Regs (s.a &&& m) s.x s.y s.sp ∧ s.ZNOnly (s.a &&& m) t) ∧
  Reads [(.oraIzx, .izx), (.oraZp, .zp), (.oraImm, .imm), (.oraAbs, .abs), (.oraIzy, .izy), (.oraZpx, .zpx), (.oraAby, .aby), (.oraAbx, .abx)]
    (fun s m t => t.Regs (s.a ||| m) s.x s.y s.sp ∧ s.ZNOnly (s.a ||| m) t) ∧
  Reads [(.eorIzx, .izx), (.eorZp, .zp), (.eorImm, .imm), (.eorAbs, .abs), (.eorIzy, .izy), (.eorZpx, .zpx), (.eorAby, .aby), (.eorAbx, .abx)]
    (fun s m t => t.Regs (s.a ^^^ m) s.x s.y s.sp ∧ s.ZNOnly (s.a ^^^ m) t)

/-- CMP, CPX and CPY set C when the operand is at most the register, Z when equal, N from the difference; no register changes. R216 carries decision D43 (the direction of the carry). -/
def Obligations.Compares : Prop :=
  Reads [(.cmpIzx, .izx), (.cmpZp, .zp), (.cmpImm, .imm), (.cmpAbs, .abs), (.cmpIzy, .izy), (.cmpZpx, .zpx), (.cmpAby, .aby), (.cmpAbx, .abx)]
    (fun s m t => t.Regs s.a s.x s.y s.sp ∧ s.Compared s.a m t) ∧
  Reads [(.cpxImm, .imm), (.cpxZp, .zp), (.cpxAbs, .abs)] (fun s m t => t.Regs s.a s.x s.y s.sp ∧ s.Compared s.x m t) ∧
  Reads [(.cpyImm, .imm), (.cpyZp, .zp), (.cpyAbs, .abs)] (fun s m t => t.Regs s.a s.x s.y s.sp ∧ s.Compared s.y m t)

/-- BIT sets Z from A AND the operand, and N and V from the operand itself; A is unchanged. 42_arith_logic.md R220. -/
def Obligations.BitTests : Prop :=
  Reads [(.bitZp, .zp), (.bitAbs, .abs)]
    (fun s m t => t.Regs s.a s.x s.y s.sp ∧ t.flagZ = decide (s.a &&& m = 0) ∧ t.flagN = m.getLsbD 7 ∧ t.flagV = m.getLsbD 6 ∧
      s.KeepsFlags [bitZ, bitV, bitN] t)

/-- INC, DEC, INX, INY, DEX and DEY step a byte of memory or a register modulo 256 and set Z and N from it. 42_arith_logic.md R221 to R226. -/
def Obligations.IncrementsAndDecrements : Prop :=
  Modifies [(.incZp, .zp), (.incAbs, .abs), (.incZpx, .zpx), (.incAbx, .abx)] (fun _ m => BitVec.ofNat 8 (m.toNat + 1))
    (fun s m t => t.Regs s.a s.x s.y s.sp ∧ s.ZNOnly (BitVec.ofNat 8 (m.toNat + 1)) t) ∧
  Modifies [(.decZp, .zp), (.decAbs, .abs), (.decZpx, .zpx), (.decAbx, .abx)] (fun _ m => BitVec.ofNat 8 (m.toNat + 255))
    (fun s m t => t.Regs s.a s.x s.y s.sp ∧ s.ZNOnly (BitVec.ofNat 8 (m.toNat + 255)) t) ∧
  Implied .inx (fun s t => t.Regs s.a (BitVec.ofNat 8 (s.x.toNat + 1)) s.y s.sp ∧ s.ZNOnly (BitVec.ofNat 8 (s.x.toNat + 1)) t) ∧
  Implied .iny (fun s t => t.Regs s.a s.x (BitVec.ofNat 8 (s.y.toNat + 1)) s.sp ∧ s.ZNOnly (BitVec.ofNat 8 (s.y.toNat + 1)) t) ∧
  Implied .dex (fun s t => t.Regs s.a (BitVec.ofNat 8 (s.x.toNat + 255)) s.y s.sp ∧ s.ZNOnly (BitVec.ofNat 8 (s.x.toNat + 255)) t) ∧
  Implied .dey (fun s t => t.Regs s.a s.x (BitVec.ofNat 8 (s.y.toNat + 255)) s.sp ∧ s.ZNOnly (BitVec.ofNat 8 (s.y.toNat + 255)) t)

/-- ASL, LSR, ROL and ROR of A: the result, the bit shifted out as C, Z and N; a rotate takes C in at the free end. The accumulator forms of R240 to R244; the memory forms are ShiftsOfMemory. -/
def Obligations.ShiftsOfTheAccumulator : Prop :=
  Implied .aslAcc (fun s t => t.Regs (doubled s.flagC s.a) s.x s.y s.sp ∧ s.Shifted (decide (128 ≤ s.a.toNat)) (doubled s.flagC s.a) t) ∧
  Implied .lsrAcc (fun s t => t.Regs (halved s.flagC s.a) s.x s.y s.sp ∧ s.Shifted (decide (s.a.toNat % 2 = 1)) (halved s.flagC s.a) t) ∧
  Implied .rolAcc (fun s t => t.Regs (rotatedUp s.flagC s.a) s.x s.y s.sp ∧
    s.Shifted (decide (128 ≤ s.a.toNat)) (rotatedUp s.flagC s.a) t) ∧
  Implied .rorAcc (fun s t => t.Regs (rotatedDown s.flagC s.a) s.x s.y s.sp ∧
    s.Shifted (decide (s.a.toNat % 2 = 1)) (rotatedDown s.flagC s.a) t)

/-- ASL, LSR, ROL and ROR of memory: one read and one write of the result, the bit shifted out as C, Z and N. The memory forms of R240 to R244; the single write of R179 carries decision D12. -/
def Obligations.ShiftsOfMemory : Prop :=
  Modifies [(.aslZp, .zp), (.aslAbs, .abs), (.aslZpx, .zpx), (.aslAbx, .abx)] doubled
    (fun s m t => t.Regs s.a s.x s.y s.sp ∧ s.Shifted (decide (128 ≤ m.toNat)) (doubled s.flagC m) t) ∧
  Modifies [(.lsrZp, .zp), (.lsrAbs, .abs), (.lsrZpx, .zpx), (.lsrAbx, .abx)] halved
    (fun s m t => t.Regs s.a s.x s.y s.sp ∧ s.Shifted (decide (m.toNat % 2 = 1)) (halved s.flagC m) t) ∧
  Modifies [(.rolZp, .zp), (.rolAbs, .abs), (.rolZpx, .zpx), (.rolAbx, .abx)] rotatedUp
    (fun s m t => t.Regs s.a s.x s.y s.sp ∧ s.Shifted (decide (128 ≤ m.toNat)) (rotatedUp s.flagC m) t) ∧
  Modifies [(.rorZp, .zp), (.rorAbs, .abs), (.rorZpx, .zpx), (.rorAbx, .abx)] rotatedDown
    (fun s m t => t.Regs s.a s.x s.y s.sp ∧ s.Shifted (decide (m.toNat % 2 = 1)) (rotatedDown s.flagC m) t)

/-- JMP sets PC to the operand word; the indirect form reads its target at the pointer, the high byte wrapping inside the page. 44_control_flow.md R250, R251. -/
def Obligations.Jumps : Prop :=
  (∀ s : State, s.Permissive →
    let lo := busRead s.pc s
    let hi := busRead (s.pc + 1) lo.2
    ∃ t, exec .jmpAbs s = .next t ∧ t.pc.toNat = lo.1.toNat + 256 * hi.1.toNat ∧ t.Regs s.a s.x s.y s.sp ∧ t.p = s.p ∧
      t.halted = s.halted ∧ s.SameMemory t ∧ s.SameRun t ∧ hi.2.SameDevices t) ∧
  (∀ s : State, s.Permissive →
    let pl := busRead s.pc s
    let ph := busRead (s.pc + 1) pl.2
    let ptr := pl.1.toNat + 256 * ph.1.toNat
    let lo := busRead (BitVec.ofNat 16 ptr) ph.2
    let hi := busRead (BitVec.ofNat 16 (ptr / 256 * 256 + (ptr + 1) % 256)) lo.2
    ∃ t, exec .jmpInd s = .next t ∧ t.pc.toNat = lo.1.toNat + 256 * hi.1.toNat ∧ t.Regs s.a s.x s.y s.sp ∧ t.p = s.p ∧
      t.halted = s.halted ∧ s.SameMemory t ∧ s.SameRun t ∧ hi.2.SameDevices t)

/-- JSR pushes the address of its last byte, high byte first, and jumps; RTS pulls it and adds one. R252 and R253 carry decision D39 (the return-address convention). R178 is marked derived, in whole or in part, in the spec. -/
def Obligations.SubroutineCallAndReturn : Prop :=
  (∀ s : State, s.Permissive → s.MemoryWf →
    let u : State := { s with
      ram := (s.ram.write (0x100 + s.sp.toNat) (hiByte (s.pc + 1))).write (0x100 + (s.sp - 1).toNat) (loByte (s.pc + 1)), sp := s.sp - 2 }
    let lo := busRead s.pc u
    let hi := busRead (s.pc + 1) lo.2
    ∃ t, exec .jsr s = .next t ∧ t.pc.toNat = lo.1.toNat + 256 * hi.1.toNat ∧ t.Regs s.a s.x s.y (s.sp - 2) ∧ t.p = s.p ∧
      t.halted = s.halted ∧
      (256 * (t.ram.read (0x100 + s.sp.toNat)).toNat + (t.ram.read (0x100 + (s.sp - 1).toNat)).toNat = (s.pc + 1).toNat) ∧
      (∀ k, k ≠ 0x100 + s.sp.toNat → k ≠ 0x100 + (s.sp - 1).toNat → t.ram.read k = s.ram.read k) ∧
      (∀ k, t.ppu.vram.read k = s.ppu.vram.read k ∧ t.ppu.palette.read k = s.ppu.palette.read k ∧
        t.ppu.oam.read k = s.ppu.oam.read k) ∧ s.SameRun t ∧ hi.2.SameDevices t) ∧
  (∀ s : State, s.Permissive →
    ∃ t, exec .rts s = .next t ∧
      t.pc.toNat = ((s.ram.read (0x100 + (s.sp + 1).toNat)).toNat + 256 * (s.ram.read (0x100 + (s.sp + 2).toNat)).toNat + 1) % 65536 ∧
      t.Regs s.a s.x s.y (s.sp + 2) ∧ t.p = s.p ∧ t.halted = s.halted ∧ s.SameMemory t ∧ s.SameRun t ∧ s.SameDevices t)

/-- RTI pulls P, forces BREAK clear and BREAK2 set, then pulls PC with no adjustment. R259 carries decision D9 (the forced bits). -/
def Obligations.RtiReturns : Prop :=
  ∀ s : State, s.Permissive →
    ∃ t, exec .rti s = .next t ∧ t.flagB = false ∧ t.flagU = true ∧
      (∀ k, k ≠ bitB → k ≠ bitU → t.p.getLsbD k = (s.ram.read (0x100 + (s.sp + 1).toNat)).getLsbD k) ∧
      t.pc.toNat = (s.ram.read (0x100 + (s.sp + 2).toNat)).toNat + 256 * (s.ram.read (0x100 + (s.sp + 3).toNat)).toNat ∧
      t.Regs s.a s.x s.y (s.sp + 3) ∧ t.halted = s.halted ∧ s.SameMemory t ∧ s.SameRun t ∧ s.SameDevices t

/-- The eight branches: taken, PC is the next instruction plus the signed offset; not taken, the offset is not even read. R254 carries decisions D6 and D12 (the offset of a branch not taken is not read). -/
def Obligations.Branches : Prop :=
  ∀ f ∈ ([(.bcc, fun s => !s.flagC), (.bcs, fun s => s.flagC), (.beq, fun s => s.flagZ), (.bmi, fun s => s.flagN),
      (.bne, fun s => !s.flagZ), (.bpl, fun s => !s.flagN), (.bvc, fun s => !s.flagV), (.bvs, fun s => s.flagV)] :
      List (Instr × (State → Bool))), ∀ s : State, s.Permissive →
    ∃ t, exec f.1 s = .next t ∧ t.Regs s.a s.x s.y s.sp ∧ t.p = s.p ∧ t.halted = s.halted ∧ s.SameMemory t ∧ s.SameRun t ∧
      (f.2 s = true → (t.pc.toNat : Int) = (s.pc.toNat + 1 + (busRead s.pc s).1.toInt) % 65536 ∧
        (busRead s.pc s).2.SameDevices t) ∧
      (f.2 s = false → t.pc = s.pc + 1 ∧ s.SameDevices t)

/-- BRK halts the machine and changes nothing else: no push, no flag, no vector, no tick and no trace. R262 carries decision D7. R160 is marked derived, in whole or in part, in the spec. -/
def Obligations.BrkHalts : Prop :=
  (∀ s : State, s.Permissive → exec .brk s = .next { s with halted := true }) ∧
  (∀ s : State, s.Permissive → s.halted = false → s.ppu.nmiPending = false → (busRead s.pc s).1 = 0x00#8 →
    step s = .next { (busRead s.pc s).2 with pc := s.pc + 1, halted := true })

/-- The forty NOPs change nothing but PC; those with a memory operand perform the read, those with an immediate do not. R315, R316 and R317 carry decisions D3 and D13. R138 is marked derived, in whole or in part, in the spec. -/
def Obligations.NopsChangeNothing : Prop :=
  (∀ i ∈ ([.nop02, .nop12, .nop1A, .nop22, .nop32, .nop3A, .nop42, .nop52, .nop5A, .nop62, .nop72, .nop7A, .nop92, .nopB2, .nopD2, .nopDA, .nopEA, .nopF2, .nopFA] : List Instr),
    Implied i (fun s t => t.Regs s.a s.x s.y s.sp ∧ t.p = s.p)) ∧
  (∀ i ∈ ([.nop80, .nop82, .nop89, .nopC2, .nopE2] : List Instr), ∀ s : State, s.Permissive →
    exec i s = .next { s with pc := s.pc + 1 }) ∧
  Reads [(.nop04, .zp), (.nop0C, .abs), (.nop14, .zpx), (.nop1C, .abx), (.nop34, .zpx), (.nop3C, .abx), (.nop44, .zp), (.nop54, .zpx), (.nop5C, .abx), (.nop64, .zp), (.nop74, .zpx), (.nop7C, .abx), (.nopD4, .zpx), (.nopDC, .abx), (.nopF4, .zpx), (.nopFC, .abx)]
    (fun s _ t => t.Regs s.a s.x s.y s.sp ∧ t.p = s.p)

/-- PHA and PHP write one stack byte, PLA and PLP read one; the pushed P has bits 4 and 5 set, the pulled P has 4 clear and 5 set. R282 and R283 carry decision D9 (the images of bits 4 and 5). R282, R283, R176 are marked derived, in whole or in part, in the spec. -/
def Obligations.StackInstructions : Prop :=
  (∀ f ∈ ([(.pha, fun s => s.a), (.php, fun s => BitVec.ofNat 8 (s.p.toNat ||| 0x30))] : List (Instr × (State → Byte))),
    ∀ s : State, s.Permissive → s.MemoryWf → ∃ t, exec f.1 s = .next t ∧ t.Regs s.a s.x s.y (s.sp - 1) ∧ t.p = s.p ∧ t.pc = s.pc ∧
      t.halted = s.halted ∧ t.ram.read (0x100 + s.sp.toNat) = f.2 s ∧
      (∀ k, k ≠ 0x100 + s.sp.toNat → t.ram.read k = s.ram.read k) ∧ s.SameRun t ∧ s.SameDevices t) ∧
  Implied .pla (fun s t => t.Regs (s.ram.read (0x100 + (s.sp + 1).toNat)) s.x s.y (s.sp + 1) ∧
    s.ZNOnly (s.ram.read (0x100 + (s.sp + 1).toNat)) t) ∧
  Implied .plp (fun s t => t.Regs s.a s.x s.y (s.sp + 1) ∧ t.flagB = false ∧ t.flagU = true ∧
    ∀ k, k ≠ bitB → k ≠ bitU → t.p.getLsbD k = (s.ram.read (0x100 + (s.sp + 1).toNat)).getLsbD k)

/-- The seven flag instructions change their one flag and nothing else. 45_stack_flags.md R284 to R290. -/
def Obligations.FlagInstructions : Prop :=
  ∀ f ∈ ([(.clc, bitC, false), (.sec, bitC, true), (.cli, bitI, false), (.sei, bitI, true), (.cld, bitD, false),
      (.sed, bitD, true), (.clv, bitV, false)] : List (Instr × Nat × Bool)),
    Implied f.1 (fun s t => t.Regs s.a s.x s.y s.sp ∧ t.p.getLsbD f.2.1 = f.2.2 ∧ s.KeepsFlags [f.2.1] t)

/-- SLO, RLA and SRE: the shift of memory, then ORA, AND or EOR of its result into A. 46_unofficial.md R301, R302, R303. -/
def Obligations.ShiftComposites : Prop :=
  Modifies [(.sloIzx, .izx), (.sloZp, .zp), (.sloAbs, .abs), (.sloIzy, .izy), (.sloZpx, .zpx), (.sloAby, .aby), (.sloAbx, .abx)] doubled
    (fun s m t => t.Regs (s.a ||| doubled s.flagC m) s.x s.y s.sp ∧
      s.Shifted (decide (128 ≤ m.toNat)) (s.a ||| doubled s.flagC m) t) ∧
  Modifies [(.rlaIzx, .izx), (.rlaZp, .zp), (.rlaAbs, .abs), (.rlaIzy, .izy), (.rlaZpx, .zpx), (.rlaAby, .aby), (.rlaAbx, .abx)] rotatedUp
    (fun s m t => t.Regs (s.a &&& rotatedUp s.flagC m) s.x s.y s.sp ∧
      s.Shifted (decide (128 ≤ m.toNat)) (s.a &&& rotatedUp s.flagC m) t) ∧
  Modifies [(.sreIzx, .izx), (.sreZp, .zp), (.sreAbs, .abs), (.sreIzy, .izy), (.sreZpx, .zpx), (.sreAby, .aby), (.sreAbx, .abx)] halved
    (fun s m t => t.Regs (s.a ^^^ halved s.flagC m) s.x s.y s.sp ∧
      s.Shifted (decide (m.toNat % 2 = 1)) (s.a ^^^ halved s.flagC m) t)

/-- RRA, DCP and ISB: the rotate, decrement or increment of memory, then the addition, compare or subtraction of its result. 46_unofficial.md R304, R305, R306. -/
def Obligations.ArithmeticComposites : Prop :=
  Modifies [(.rraIzx, .izx), (.rraZp, .zp), (.rraAbs, .abs), (.rraIzy, .izy), (.rraZpx, .zpx), (.rraAby, .aby), (.rraAbx, .abx)] rotatedDown
    (fun s m t => t.Regs t.a s.x s.y s.sp ∧ s.Added s.a (rotatedDown s.flagC m) (decide (m.toNat % 2 = 1)) t) ∧
  Modifies [(.dcpIzx, .izx), (.dcpZp, .zp), (.dcpAbs, .abs), (.dcpIzy, .izy), (.dcpZpx, .zpx), (.dcpAby, .aby), (.dcpAbx, .abx)] (fun _ m => BitVec.ofNat 8 (m.toNat + 255))
    (fun s m t => t.Regs s.a s.x s.y s.sp ∧ s.Compared s.a (BitVec.ofNat 8 (m.toNat + 255)) t) ∧
  Modifies [(.isbIzx, .izx), (.isbZp, .zp), (.isbAbs, .abs), (.isbIzy, .izy), (.isbZpx, .zpx), (.isbAby, .aby), (.isbAbx, .abx)] (fun _ m => BitVec.ofNat 8 (m.toNat + 1))
    (fun s m t => t.Regs t.a s.x s.y s.sp ∧ s.Subtracted s.a (BitVec.ofNat 8 (m.toNat + 1)) s.flagC t)

/-- LAX loads A and X from the operand; SAX stores A AND X and touches no flag. 46_unofficial.md R307, R308. -/
def Obligations.LaxAndSax : Prop :=
  Reads [(.laxIzx, .izx), (.laxZp, .zp), (.laxAbs, .abs), (.laxIzy, .izy), (.laxZpy, .zpy), (.laxAby, .aby)]
    (fun s m t => t.Regs m m s.y s.sp ∧ s.ZNOnly m t) ∧
  Stores [(.saxIzx, .izx), (.saxZp, .zp), (.saxAbs, .abs), (.saxZpy, .zpy)] (fun s _ => s.a &&& s.x)
    (fun s t => t.Regs s.a s.x s.y s.sp ∧ t.p = s.p)

/-- ANC, ALR, ARR and AXS: A AND the operand, shifted or rotated, with their carries; AXS subtracts from A AND X into X. 46_unofficial.md R309 to R312. -/
def Obligations.ImmediateComposites : Prop :=
  Reads [(.anc0B, .imm), (.anc2B, .imm)] (fun s m t => t.Regs (s.a &&& m) s.x s.y s.sp ∧
    s.Shifted (decide (128 ≤ (s.a &&& m).toNat)) (s.a &&& m) t) ∧
  Reads [(.alrImm, .imm)] (fun s m t => t.Regs (halved false (s.a &&& m)) s.x s.y s.sp ∧
    s.Shifted (decide ((s.a &&& m).toNat % 2 = 1)) (halved false (s.a &&& m)) t) ∧
  Reads [(.arrImm, .imm)] (fun s m t => t.Regs (rotatedDown s.flagC (s.a &&& m)) s.x s.y s.sp ∧
    t.flagC = decide (t.a.toNat / 64 % 2 = 1) ∧ t.flagV = decide (t.a.toNat / 64 % 2 ≠ t.a.toNat / 32 % 2) ∧
    t.HasZN t.a ∧ s.KeepsFlags [bitC, bitZ, bitV, bitN] t) ∧
  Reads [(.axsImm, .imm)] (fun s m t => t.Regs s.a ((s.a &&& s.x) - m) s.y s.sp ∧ s.Compared (s.a &&& s.x) m t)

/-- LXA, XAA, LAS, TAS, AHX, SHX and SHY do what the spec's fixed formulas say. The formulas are decision D5 of the spec (notes/assumptions/9.md). -/
def Obligations.UnstableOpcodes : Prop :=
  Reads [(.lxaImm, .imm)] (fun s m t => t.Regs m m s.y s.sp ∧ s.ZNOnly m t) ∧
  Reads [(.xaaImm, .imm)] (fun s m t => t.Regs (s.x &&& m) s.x s.y s.sp ∧ s.ZNOnly (s.x &&& m) t) ∧
  Reads [(.lasAby, .aby)] (fun s m t => t.Regs (m &&& s.sp) (m &&& s.sp) s.y (m &&& s.sp) ∧ s.ZNOnly (m &&& s.sp) t) ∧
  Stores [(.tasAby, .aby)] (fun s ea => BitVec.ofNat 8 (ea.toNat / 256 + 1) &&& (s.a &&& s.x))
    (fun s t => t.Regs s.a s.x s.y (s.a &&& s.x) ∧ t.p = s.p) ∧
  Stores [(.ahxIzy, .izy), (.ahxAby, .aby)] (fun s ea => s.a &&& s.x &&& BitVec.ofNat 8 (ea.toNat / 256))
    (fun s t => t.Regs s.a s.x s.y s.sp ∧ t.p = s.p) ∧
  Stores [(.shxAby, .aby)] (fun s ea => s.x &&& BitVec.ofNat 8 (ea.toNat / 256 + 1))
    (fun s t => t.Regs s.a s.x s.y s.sp ∧ t.p = s.p) ∧
  Stores [(.shyAbx, .abx)] (fun s ea => s.y &&& BitVec.ofNat 8 (ea.toNat / 256 + 1))
    (fun s t => t.Regs s.a s.x s.y s.sp ∧ t.p = s.p)

/-- The effective address of every data mode, with its 8-bit and 16-bit wraps. The pointer's wrap in R172 and R173 carries decision D11. -/
def Obligations.EffectiveAddresses : Prop :=
  ∀ s : State,
    let b := (busRead s.pc s).1.toNat
    let w := b + 256 * (busRead (s.pc + 1) (busRead s.pc s).2).1.toNat
    let page0 := fun n => (s.ram.read (n % 256)).toNat + 256 * (s.ram.read ((n + 1) % 256)).toNat
    effAddr .imm s = (s.pc, s) ∧
    (effAddr .zp s).1.toNat = b ∧
    (effAddr .zpx s).1.toNat = (b + s.x.toNat) % 256 ∧
    (effAddr .zpy s).1.toNat = (b + s.y.toNat) % 256 ∧
    (effAddr .abs s).1.toNat = w ∧
    (effAddr .abx s).1.toNat = (w + s.x.toNat) % 65536 ∧
    (effAddr .aby s).1.toNat = (w + s.y.toNat) % 65536 ∧
    (effAddr .izx s).1.toNat = page0 (b + s.x.toNat) ∧
    (effAddr .izy s).1.toNat = (page0 b + s.y.toNat) % 65536 ∧
    (∀ m ∈ ([.zp, .zpx, .zpy, .izx, .izy] : List DataMode), (effAddr m s).2 = (busRead s.pc s).2) ∧
    (∀ m ∈ ([.abs, .abx, .aby] : List DataMode), (effAddr m s).2 = (busRead (s.pc + 1) (busRead s.pc s).2).2)

/-- A byte written anywhere in 0x0000 to 0x1FFF reads back at every mirror of it, and only there; RAM reads have no side effect. 20_memory.md R76. -/
def Obligations.RamIsMirrored : Prop :=
  ∀ (a b : Addr) (v : Byte) (s : State), s.MemoryWf → a.toNat < 0x2000 → b.toNat < 0x2000 →
    (busRead b s).2 = s ∧
    (busRead b (busWrite a v s)).1 = (if b.toNat % 0x800 = a.toNat % 0x800 then v else (busRead b s).1) ∧
    busWrite a v s = { s with ram := (busWrite a v s).ram } ∧
    (busWrite a v s).ram.read (a.toNat % 0x800) = v

/-- 0x2000 to 0x3FFF selects one of eight PPU registers by the low three bits; an invalid access reads 0 or writes nothing and leaves its record alone. 20_memory.md R77, R78, R79 and 60_exceptions.md R453. R79 and R455 carry decision D1; that a strict stop is held in the field stop is the model's (notes/assumptions/3.md). R78 is marked derived, in whole or in part, in the spec. -/
def Obligations.PpuRegistersAreMirrored : Prop :=
  ∀ (a : Addr) (v : Byte) (s : State), 0x2000 ≤ a.toNat → a.toNat < 0x4000 →
    let r : Addr := BitVec.ofNat 16 (0x2000 + a.toNat % 8)
    ppuReg a = r ∧
    ((busRead a s).1 = (busRead r s).1 ∧ (busRead a s).2.ppu = (busRead r s).2.ppu) ∧
    ((busWrite a v s).ppu = (busWrite r v s).ppu) ∧
    (a.toNat % 8 = 2 ∨ a.toNat % 8 = 4 ∨ a.toNat % 8 = 7 → busRead a s = busRead r s) ∧
    (a.toNat % 8 ≠ 2 → busWrite a v s = busWrite r v s) ∧
    (a.toNat % 8 ∈ [0, 1, 3, 5, 6] →
      (s.cfg.strict = false → busRead a s = (0x00, { s with events := .log (.invalid .readWriteOnly) a :: s.events })) ∧
      (s.cfg.strict = true → s.stop = none → busRead a s = (0x00, { s with stop := some ⟨.readWriteOnly, a⟩ }))) ∧
    (a.toNat % 8 = 2 →
      (s.cfg.strict = false → busWrite a v s = { s with events := .log (.invalid .writeStatus) a :: s.events }) ∧
      (s.cfg.strict = true → s.stop = none → busWrite a v s = { s with stop := some ⟨.writeStatus, a⟩ }))

/-- PRG-ROM reads its image, a 16 KB one twice; the APU stub reads 0 and discards; unmapped addresses do the same with a record. R84 and R87 carry decisions D34 and D1. -/
def Obligations.RomStubAndUnmapped : Prop :=
  ∀ (a : Addr) (v : Byte) (s : State),
    (0x8000 ≤ a.toNat → (busRead a s).2 = s ∧
      (s.cfg.prgSize = .k16 → (busRead a s).1 = s.cfg.prg.read ((a.toNat - 0x8000) % 0x4000)) ∧
      (s.cfg.prgSize = .k32 → (busRead a s).1 = s.cfg.prg.read (a.toNat - 0x8000)) ∧
      (s.cfg.strict = false → busWrite a v s = { s with events := .log (.invalid .writeRom) a :: s.events })) ∧
    (0x4000 ≤ a.toNat → a.toNat ≤ 0x4015 → busRead a s = (0x00, s)) ∧
    (0x4000 ≤ a.toNat → a.toNat ≤ 0x4017 → a.toNat ≠ 0x4014 → a.toNat ≠ 0x4016 → busWrite a v s = s) ∧
    (0x4018 ≤ a.toNat → a.toNat ≤ 0x7FFF →
      busRead a s = (0x00, { s with events := .log .unmapped a :: s.events }) ∧
      busWrite a v s = { s with events := .log .unmapped a :: s.events })

/-- No step changes the cartridge or the configuration. The configuration is "Immutable once parsed" (R435). Also, of the decisions of the spec: R87 carries D1; R435 carries D28. -/
def Obligations.ConfigurationNeverChanges : Prop :=
  ∀ s t : State, step s = .next t → t.cfg = s.cfg

/-- In a strict machine every invalid access, by an instruction, a fetch or a DMA, stops the step with a fault that names the access. The lists of forms and readStop, writeStop, wordStop and operandStop, which say which access is invalid as R453 does, are in Safety.lean. R455 carries decision D1; that the stop is a fault of the step, and that the field stop carries it, is the model's (notes/assumptions/3.md). The unstable stores and the read-modify-write forms cannot write a page of PPU registers to 0x4014: they would write 0, 1, a value with bit 5 clear, or 0xFF. Also, of the decisions of the spec: R100 carries D10; R101 carries D12 and D29. R431 is marked derived, in whole or in part, in the spec. -/
def Obligations.StrictMachineStops : Prop :=
  (∀ f ∈ readForms ++ storeForms ++ modifyForms, ∀ (s : State) (r : Stop), s.cfg.strict = true → s.stop = none →
      operandStop f.2 s.pc = some r → exec f.1 s = stopped r) ∧
  (∀ f ∈ storeForms, ∀ (s : State) (r : Stop), s.cfg.strict = true → (effAddr f.2 s).2.stop = none →
      writeStop (effAddr f.2 s).1 = some r → exec f.1 s = stopped r) ∧
  (∀ f ∈ readForms, ∀ (s : State) (r : Stop), s.cfg.strict = true → (effAddr f.2 s).2.stop = none →
      readStop (effAddr f.2 s).1 = some r → exec f.1 s = stopped r) ∧
  (∀ f ∈ modifyForms, ∀ (s : State) (r : Stop), s.cfg.strict = true → (effAddr f.2 s).2.stop = none →
      (readStop (effAddr f.2 s).1).or (writeStop (effAddr f.2 s).1) = some r → exec f.1 s = stopped r) ∧
  (∀ i ∈ ([.jmpAbs, .jmpInd, .jsr] : List Instr), ∀ (s : State) (r : Stop), s.cfg.strict = true → s.stop = none →
      wordStop s.pc = some r → exec i s = stopped r) ∧
  (∀ (s : State) (r : Stop), s.cfg.strict = true → (busRead16 s.pc s).2.stop = none →
      let ptr := (busRead16 s.pc s).1
      (readStop ptr).or (readStop (BitVec.ofNat 16 (ptr.toNat / 256 * 256 + (ptr.toNat + 1) % 256))) = some r →
      exec .jmpInd s = stopped r) ∧
  (∀ f ∈ ([(.bcc, fun s => !s.flagC), (.bcs, fun s => s.flagC), (.beq, fun s => s.flagZ), (.bmi, fun s => s.flagN),
      (.bne, fun s => !s.flagZ), (.bpl, fun s => !s.flagN), (.bvc, fun s => !s.flagV), (.bvs, fun s => s.flagV)] :
      List (Instr × (State → Bool))), ∀ (s : State) (r : Stop), s.cfg.strict = true → s.stop = none → f.2 s = true →
      readStop s.pc = some r → exec f.1 s = stopped r) ∧
  (∀ f ∈ ([(.staIzx, .izx, fun s => s.a),
      (.staAbs, .abs, fun s => s.a),
      (.staIzy, .izy, fun s => s.a),
      (.staAby, .aby, fun s => s.a),
      (.staAbx, .abx, fun s => s.a),
      (.stxAbs, .abs, fun s => s.x),
      (.styAbs, .abs, fun s => s.y),
      (.saxIzx, .izx, fun s => s.a &&& s.x),
      (.saxAbs, .abs, fun s => s.a &&& s.x)] : List (Instr × DataMode × (State → Byte))),
    ∀ s : State, s.cfg.strict = true → (effAddr f.2.1 s).2.stop = none → (effAddr f.2.1 s).1 = 0x4014#16 →
      0x20 ≤ (f.2.2 s).toNat → (f.2.2 s).toNat < 0x40 →
      exec f.1 s = stopped ⟨.readWriteOnly, BitVec.ofNat 16 ((f.2.2 s).toNat * 256)⟩) ∧
  (∀ (s : State) (r : Stop), s.cfg.strict = true → s.stop = none → s.halted = false →
      readStop (serviceNmi s).pc = some r → step s = stopped r) ∧
  (∀ (i : Instr) (s : State) (r : Stop), s.stop = some r → exec i s = stopped r)

/-- The NMI entry pushes PC and P (BREAK clear, BREAK2 set), sets I, ticks two cycles and loads PC from 0xFFFA. 60_exceptions.md R460. -/
def Obligations.NmiEntryEffect : Prop :=
  ∀ s : State, s.MemoryWf → let t := nmiEntry s
    256 * (t.ram.read (0x100 + s.sp.toNat)).toNat + (t.ram.read (0x100 + (s.sp - 1).toNat)).toNat = s.pc.toNat ∧
    (t.ram.read (0x100 + (s.sp - 2).toNat)).toNat = (s.p.toNat &&& 0xEF) ||| 0x20 ∧
    (∀ k, k ≠ 0x100 + s.sp.toNat → k ≠ 0x100 + (s.sp - 1).toNat → k ≠ 0x100 + (s.sp - 2).toNat →
      t.ram.read k = s.ram.read k) ∧
    t.Regs s.a s.x s.y (s.sp - 3) ∧ t.flagI = true ∧ s.KeepsFlags [bitI] t ∧
    t.pc.toNat = (prgRead s.cfg 0xFFFA).toNat + 256 * (prgRead s.cfg 0xFFFB).toNat ∧
    t.cycles = s.cycles + 2 ∧ t.ppu = (s.ppu.tick 6).1 ∧ t.halted = s.halted ∧ t.cfg = s.cfg

/-- An NMI entry followed at once by RTI restores A, X, Y, SP, P and PC exactly. R463 is marked derived in the spec; that every run has StatusBits is part of the invariant Inv. Also, of the decisions of the spec: R259 carries D9. -/
def Obligations.NmiThenRtiRestores : Prop :=
  ∀ s : State, s.Permissive → s.MemoryWf → s.StatusBits →
    ∃ t, exec .rti (nmiEntry s) = .next t ∧ t.a = s.a ∧ t.x = s.x ∧ t.y = s.y ∧ t.sp = s.sp ∧ t.p = s.p ∧ t.pc = s.pc

/-- The PPU clock: a tick that stays in its scanline moves the cycle alone; one that leaves it runs the event of the next scanline. 47_ppu_registers.md R352, R353, with the loop of R351. -/
def Obligations.PpuClock : Prop :=
  ∀ (p : Ppu) (n : Nat), p.cycle < 341 → n ≤ 341 →
    let q := (p.tick n).1
    (p.cycle + n < 341 → p.tick n = ({ p with cycle := p.cycle + n }, false)) ∧
    (341 ≤ p.cycle + n →
      q = { p with cycle := p.cycle + n - 341, scanline := q.scanline, status := q.status, nmiPending := q.nmiPending } ∧
      (∀ k, k ≠ 6 → k ≠ 7 → q.status.getLsbD k = p.status.getLsbD k) ∧
      (p.scanline + 1 = 241 → q.scanline = 241 ∧ q.vblank = true ∧ q.spriteZeroHit = false ∧
        q.nmiPending = (p.nmiPending || p.generateNmi) ∧ (p.tick n).2 = false) ∧
      (262 ≤ p.scanline + 1 → q.scanline = 0 ∧ q.vblank = false ∧ q.spriteZeroHit = false ∧
        q.nmiPending = false ∧ (p.tick n).2 = true) ∧
      (p.scanline + 1 ≠ 241 → p.scanline + 1 < 262 → q.scanline = p.scanline + 1 ∧ q.status = p.status ∧
        q.nmiPending = p.nmiPending ∧ (p.tick n).2 = false))

/-- A Bus tick that raises the NMI tells the host of a frame once and takes its next buttons; any other tick tells it nothing. R110 carries decision D40, R425 decision D26; the input list is the model's (notes/assumptions/6.md). Also, of the decisions of the spec: R351 carries D31. R351 is marked derived, in whole or in part, in the spec. -/
def Obligations.FrameEvent : Prop :=
  ∀ (s : State) (n : Nat), s.ppu.cycle < 341 → n ≤ 8 →
    let t := busTick n s
    t.cycles = s.cycles + n ∧ t.ppu = (s.ppu.tick (3 * n)).1 ∧ t.ram = s.ram ∧ t.cfg = s.cfg ∧
    (s.ppu.scanline = 240 → 341 ≤ s.ppu.cycle + 3 * n → s.ppu.generateNmi = true → s.ppu.nmiPending = false →
      t.ppu.nmiPending = true ∧ t.events = .onFrame :: s.events ∧
      (∀ b rest, s.input = b :: rest → t.input = rest ∧
        t.joy0 = { s.joy0 with buttons := b.1 } ∧ t.joy1 = { s.joy1 with buttons := b.2 }) ∧
      (s.input = [] → t.input = [] ∧ t.joy0 = s.joy0 ∧ t.joy1 = s.joy1)) ∧
    (s.ppu.scanline ≠ 240 ∨ s.ppu.cycle + 3 * n < 341 ∨ s.ppu.generateNmi = false ∨ s.ppu.nmiPending = true →
      t.events = s.events ∧ t.input = s.input ∧ t.joy0 = s.joy0 ∧ t.joy1 = s.joy1)

/-- A Control write raises the NMI exactly when it turns NMI generation on while VBLANK is set; Mask and Scroll just store. R360 and R364 carry decisions D40 and D22. -/
def Obligations.PpuRegisterWrites : Prop :=
  ∀ (a : Addr) (v : Byte) (s : State), 0x2000 ≤ a.toNat → a.toNat < 0x4000 →
    (a.toNat % 8 = 0 → busWrite a v s = { s with ppu := { s.ppu with
      ctrl := v, nmiPending := s.ppu.nmiPending || (!s.ppu.ctrl.getLsbD 7 && v.getLsbD 7 && s.ppu.status.getLsbD 7) } }) ∧
    (a.toNat % 8 = 1 → busWrite a v s = { s with ppu := { s.ppu with mask := v } }) ∧
    (a.toNat % 8 = 5 → s.ppu.scrollYNext = false →
      busWrite a v s = { s with ppu := { s.ppu with scrollX := v, scrollYNext := true } }) ∧
    (a.toNat % 8 = 5 → s.ppu.scrollYNext = true →
      busWrite a v s = { s with ppu := { s.ppu with scrollY := v, scrollYNext := false } })

/-- A Status read returns the byte as it was, clears VBLANK and resets both write latches; the pending NMI and every other bit stay. R362 carries decision D38. R99 is marked derived, in whole or in part, in the spec. -/
def Obligations.StatusRead : Prop :=
  ∀ (a : Addr) (s : State), 0x2000 ≤ a.toNat → a.toNat < 0x4000 → a.toNat % 8 = 2 →
    let t := (busRead a s).2
    (busRead a s).1 = s.ppu.status ∧ t.ppu.vblank = false ∧
    (∀ k, k ≠ 7 → t.ppu.status.getLsbD k = s.ppu.status.getLsbD k) ∧
    t = { s with ppu := { s.ppu with status := t.ppu.status, addrHiNext := true, scrollYNext := false } } ∧
    (busRead a t).1 = t.ppu.status

/-- Two writes to 0x2006 set the 14-bit address, high byte first, its top two bits dropped; one write replaces only its half. 47_ppu_registers.md R365. -/
def Obligations.AddressPort : Prop :=
  ∀ (a : Addr) (h l : Byte) (s : State), 0x2000 ≤ a.toNat → a.toNat < 0x4000 → a.toNat % 8 = 6 →
    (s.ppu.addrHiNext = true →
      (busWrite a h s).ppu.addrValue.toNat = h.toNat % 64 * 256 + s.ppu.addrValue.toNat % 256 ∧
      busWrite a h s = { s with ppu := { s.ppu with addrValue := (busWrite a h s).ppu.addrValue, addrHiNext := false } } ∧
      (busWrite a l (busWrite a h s)).ppu.addrValue.toNat = h.toNat % 64 * 256 + l.toNat ∧
      (busWrite a l (busWrite a h s)).ppu.addrHiNext = true) ∧
    (s.ppu.addrHiNext = false →
      (busWrite a l s).ppu.addrValue.toNat = s.ppu.addrValue.toNat / 256 * 256 + l.toNat ∧
      busWrite a l s = { s with ppu := { s.ppu with addrValue := (busWrite a l s).ppu.addrValue, addrHiNext := true } })

/-- A read of 0x2007: CHR and VRAM through the one-byte buffer, the palette at once, the unused range as zero; the address always advances. R366, R367 and R370 carry decisions D47 and D19. -/
def Obligations.DataPortRead : Prop :=
  ∀ (a : Addr) (s : State), 0x2000 ≤ a.toNat → a.toNat < 0x4000 → a.toNat % 8 = 7 →
    let p := s.ppu
    let at' := p.addrValue.toNat
    let t := (busRead a s).2
    t.ppu.addrValue.toNat = (at' + (if p.ctrl.getLsbD 2 then 32 else 1)) % 0x4000 ∧
    t = { s with ppu := { p with addrValue := t.ppu.addrValue, dataBuf := t.ppu.dataBuf }, events := t.events } ∧
    (at' < 0x3000 → (busRead a s).1 = p.dataBuf ∧ t.events = s.events) ∧
    (at' < 0x2000 → t.ppu.dataBuf = s.cfg.chr.read at') ∧
    (0x2000 ≤ at' → at' < 0x3000 → t.ppu.dataBuf = p.vram.read (vramIndex s.cfg.mirroring p.addrValue)) ∧
    (0x3000 ≤ at' → t.ppu.dataBuf = p.dataBuf) ∧
    (0x3000 ≤ at' → at' < 0x3F00 → (busRead a s).1 = 0x00#8 ∧
      t.events = .log .ppuUnused (BitVec.ofNat 16 at') :: s.events) ∧
    (0x3F00 ≤ at' → (busRead a s).1 = p.palette.read (palIndex p.addrValue) ∧ t.events = s.events)

/-- A write of 0x2007 stores in VRAM or the palette and nowhere else; CHR and the unused range only add a record; the address always advances. R366 and R368 carry decisions D47 and D44. -/
def Obligations.DataPortWrite : Prop :=
  ∀ (a : Addr) (v : Byte) (s : State), s.MemoryWf → 0x2000 ≤ a.toNat → a.toNat < 0x4000 → a.toNat % 8 = 7 →
    let p := s.ppu
    let at' := p.addrValue.toNat
    let t := busWrite a v s
    t.ppu.addrValue.toNat = (at' + (if p.ctrl.getLsbD 2 then 32 else 1)) % 0x4000 ∧
    t = { s with
      ppu := { p with addrValue := t.ppu.addrValue, vram := t.ppu.vram, palette := t.ppu.palette }, events := t.events } ∧
    (0x2000 ≤ at' → at' < 0x3000 → ∀ k, t.ppu.vram.read k =
      if k = vramIndex s.cfg.mirroring p.addrValue then v else p.vram.read k) ∧
    (0x3F00 ≤ at' → ∀ k, t.ppu.palette.read k = if k = palIndex p.addrValue then v else p.palette.read k) ∧
    (at' < 0x2000 ∨ 0x3000 ≤ at' → t.ppu.vram = p.vram) ∧ (at' < 0x3F00 → t.ppu.palette = p.palette) ∧
    (at' < 0x2000 → t.events = .log .chrWrite (BitVec.ofNat 16 at') :: s.events) ∧
    (0x3000 ≤ at' → at' < 0x3F00 → t.events = .log .ppuUnused (BitVec.ofNat 16 at') :: s.events) ∧
    ((0x2000 ≤ at' ∧ at' < 0x3000) ∨ 0x3F00 ≤ at' → t.events = s.events)

/-- Vertical mirroring repeats VRAM every 0x800, horizontal pairs nametables 0,1 and 2,3; four palette indices alias the background's. R374 carries decision D20, and R377, the palette clause, decision D18. -/
def Obligations.MirroringAndPaletteAlias : Prop :=
  (∀ a : PpuAddr, 0x2000 ≤ a.toNat → a.toNat < 0x3000 →
    vramIndex .vertical a = a.toNat % 0x800 ∧
    vramIndex .horizontal a = (a.toNat - 0x2000) / 0x800 * 0x400 + a.toNat % 0x400 ∧
    ∀ m, vramIndex m a < 0x800) ∧
  (∀ a : PpuAddr, 0x3F00 ≤ a.toNat →
    palIndex a = (if a.toNat % 4 = 0 then a.toNat % 16 else a.toNat % 32) ∧ palIndex a < 32)

/-- The OAM port: 0x2003 sets the pointer; 0x2004 reads at it and leaves it, writes at it and advances it modulo 256. R381 carries a decision of the spec. Also, of the decisions of the spec: R381 carries D45. -/
def Obligations.OamPort : Prop :=
  ∀ (a : Addr) (v : Byte) (s : State), s.MemoryWf → 0x2000 ≤ a.toNat → a.toNat < 0x4000 →
    (a.toNat % 8 = 3 → busWrite a v s = { s with ppu := { s.ppu with oamAddr := v } }) ∧
    (a.toNat % 8 = 4 → busRead a s = (s.ppu.oam.read s.ppu.oamAddr.toNat, s) ∧
      (busWrite a v s).ppu.oamAddr.toNat = (s.ppu.oamAddr.toNat + 1) % 256 ∧
      (∀ k, (busWrite a v s).ppu.oam.read k = if k = s.ppu.oamAddr.toNat then v else s.ppu.oam.read k) ∧
      busWrite a v s = { s with ppu := { s.ppu with
        oam := (busWrite a v s).ppu.oam, oamAddr := (busWrite a v s).ppu.oamAddr } })

/-- A write of a page number to 0x4014 copies its 256 bytes to OAM from the OAM pointer on, wrapping, and leaves the pointer where it was. R430 carries decision D25. R431 is marked derived, in whole or in part, in the spec. -/
def Obligations.OamDmaCopies : Prop :=
  ∀ (page : Byte) (s : State), s.MemoryWf →
    let r := busReadRun 256 (BitVec.ofNat 16 (page.toNat * 256)) s
    let t := busWrite 0x4014 page s
    (∀ i, i < 256 → t.ppu.oam.read ((s.ppu.oamAddr.toNat + i) % 256) = r.1.getD i 0) ∧
    t.ppu.oamAddr = s.ppu.oamAddr ∧
    t = { r.2 with ppu := { r.2.ppu with oam := t.ppu.oam } } ∧
    (page.toNat < 0x20 → r.2 = s ∧ ∀ i, i < 256 → r.1.getD i 0 = s.ram.read (page.toNat * 256 % 0x800 + i))

/-- Strobe high, strobe low, then reads: eight reads give the buttons from A to RIGHT, every further read gives 1; high, every read gives A. R420 and R422 carry decision D34; R423 is marked derived in the spec. -/
def Obligations.JoypadProtocol : Prop :=
  ∀ (s : State) (v w : Byte) (k : Nat), v.getLsbD 0 = true → w.getLsbD 0 = false →
    let high := busWrite 0x4016 v s
    let low := busWrite 0x4016 w high
    ((busRead 0x4016 ((fun u => (busRead 0x4016 u).2)^[k] low)).1.toNat =
      (if k < 8 then (s.joy0.buttons.getLsbD k).toNat else 1) ∧
    (busRead 0x4017 ((fun u => (busRead 0x4017 u).2)^[k] low)).1.toNat =
      (if k < 8 then (s.joy1.buttons.getLsbD k).toNat else 1)) ∧
    ((busRead 0x4016 ((fun u => (busRead 0x4016 u).2)^[k] high)).1.toNat = (s.joy0.buttons.getLsbD 0).toNat ∧
    (busRead 0x4017 ((fun u => (busRead 0x4017 u).2)^[k] high)).1.toNat = (s.joy1.buttons.getLsbD 0).toNat) ∧
    (((fun u => (busRead 0x4016 u).2)^[k] low).joy1 = low.joy1 ∧
    ((fun u => (busRead 0x4017 u).2)^[k] low).joy0 = low.joy0) ∧
    (high = { s with joy0 := { s.joy0 with strobe := true, index := 0 }, joy1 := { s.joy1 with strobe := true, index := 0 } } ∧
    busWrite 0x4016 w s = { s with joy0 := { s.joy0 with strobe := false }, joy1 := { s.joy1 with strobe := false } }) ∧
    ((busRead 0x4016 s).1.toNat = (if s.joy0.index < 8 then (s.joy0.buttons.getLsbD s.joy0.index).toNat else 1) ∧
    (busRead 0x4016 s).2 = { s with joy0 := { s.joy0 with
      index := if s.joy0.index < 8 ∧ s.joy0.strobe = false then s.joy0.index + 1 else s.joy0.index } }) ∧
    ((busRead 0x4017 s).1.toNat = (if s.joy1.index < 8 then (s.joy1.buttons.getLsbD s.joy1.index).toNat else 1) ∧
    (busRead 0x4017 s).2 = { s with joy1 := { s.joy1 with
      index := if s.joy1.index < 8 ∧ s.joy1.strobe = false then s.joy1.index + 1 else s.joy1.index } })

/-- A CPU reset sets the CPU registers and leaves halted, loads PC from 0xFFFC and changes nothing else. R491 carries decision D16; that a strict stop ends with the reset is the model's (notes/assumptions/14.md). Also, of the decisions of the spec: R50 carries D7 and D14 and D15 and D42. -/
def Obligations.CpuReset : Prop :=
  ∀ s : State, cpuReset s = { s with
      a := 0, x := 0, y := 0, sp := 0xFD, p := 0x24, halted := false, stop := none
      pc := BitVec.ofNat 16 ((prgRead s.cfg 0xFFFC).toNat + 256 * (prgRead s.cfg 0xFFFD).toNat) }

/-- The machine right after power-on holds the values the spec gives, around a blank cartridge. The PPU and joypad values carry decision D15; the blank cartridge and the zeros are the model's (notes/assumptions/4.md, 5.md). Also, of the decisions of the spec: R50 carries D7 and D14 and D16 and D42. R490 is marked derived, in whole or in part, in the spec. -/
def Obligations.ResetState : Prop :=
  State.reset.Regs 0 0 0 0xFD ∧ State.reset.p = 0x24 ∧ State.reset.halted = false ∧ State.reset.cycles = 0 ∧
  State.reset.pc = prgVector State.reset.cfg 0xFFFC ∧
  (State.reset.ppu.ctrl = 0 ∧ State.reset.ppu.mask = 0 ∧ State.reset.ppu.status = 0 ∧ State.reset.ppu.oamAddr = 0 ∧
    State.reset.ppu.addrValue = 0 ∧ State.reset.ppu.addrHiNext = true ∧ State.reset.ppu.scrollX = 0 ∧
    State.reset.ppu.scrollY = 0 ∧ State.reset.ppu.scrollYNext = false ∧ State.reset.ppu.dataBuf = 0 ∧
    State.reset.ppu.scanline = 0 ∧ State.reset.ppu.cycle = 0 ∧ State.reset.ppu.nmiPending = false) ∧
  State.reset.joy0 = ⟨0, false, 0⟩ ∧ State.reset.joy1 = ⟨0, false, 0⟩ ∧
  State.reset = powerOn Config.blank [] [] [] [] []

/-- The picture as arithmetic on CHR, VRAM, palette and OAM: background tiles and sub-palettes, sprites with flips, and the lowest-numbered opaque sprite in front. 48_ppu_render.md R401 to R412. R401 carries decision D46, R402 D22 and D23, R403 D17, R405 to R411 D23, R409 D17 as well. That the frame is given pixel by pixel is DEDUCED (notes/assumptions/15.md). -/
def Obligations.LowestSpriteWins : Prop :=
  (∀ (c : Config) (p : Ppu) (y x : Nat),
    (∀ n, n < 64 → spritePixel c p n y x ≠ 0 → (∀ m, m < n → spritePixel c p m y x = 0) →
      framePixel c p y x = spriteColour p n (spritePixel c p n y x)) ∧
    ((∀ n, n < 64 → spritePixel c p n y x = 0) → framePixel c p y x = bgColour c p y x) ∧
    (framePixel c p y x).toNat < 64) ∧
  (∀ (c : Config) (p : Ppu) (row col px py : Nat), row < 30 → col < 32 → px < 8 → py < 8 →
    let v := tileValue c (p.ctrl.getLsbD 4) (p.vram.read (32 * row + col)) px py
    let quadrant := row % 4 / 2 * 2 + col % 4 / 2
    let q := (p.vram.read (0x3C0 + row / 4 * 8 + col / 4)).toNat / 4 ^ quadrant % 4
    (bgColour c p (8 * row + py) (8 * col + px)).toNat = (p.palette.read (if v = 0 then 0 else 4 * q + v)).toNat % 64) ∧
  (∀ (c : Config) (p : Ppu) (n : Nat), n < 64 →
    let top := (p.oam.read (4 * n)).toNat
    let attr := p.oam.read (4 * n + 2)
    let left := (p.oam.read (4 * n + 3)).toNat
    (∀ px py, px < 8 → py < 8 →
      spritePixel c p n (top + if attr.getLsbD 7 then 7 - py else py) (left + if attr.getLsbD 6 then 7 - px else px) =
        tileValue c (p.ctrl.getLsbD 3) (p.oam.read (4 * n + 1)) px py) ∧
    (∀ y x, y < top ∨ top + 8 ≤ y ∨ x < left ∨ left + 8 ≤ x → spritePixel c p n y x = 0) ∧
    (∀ v, 1 ≤ v → v ≤ 3 →
      (spriteColour p n v).toNat = (p.palette.read (0x10 + 4 * (attr.toNat % 4) + v)).toNat % 64)) ∧
  (∀ s : State, (frame s).length = 240 ∧ ∀ y, y < 240 → ((frame s).getD y []).length = 256 ∧
    ∀ x, x < 256 → ((frame s).getD y []).getD x 0 = framePixel s.cfg s.ppu y x)

/-- The frame depends on CHR, the first KB of VRAM, the palette, OAM and two Control bits, and on nothing else. R413 is marked derived in the spec. -/
def Obligations.FrameDependsOnlyOn : Prop :=
  ∀ s t : State, (∀ k, k < 0x2000 → s.cfg.chr.read k = t.cfg.chr.read k) →
    (∀ k, k < 0x400 → s.ppu.vram.read k = t.ppu.vram.read k) →
    (∀ k, k < 32 → s.ppu.palette.read k = t.ppu.palette.read k) → (∀ k, k < 256 → s.ppu.oam.read k = t.ppu.oam.read k) →
    s.ppu.ctrl.getLsbD 3 = t.ppu.ctrl.getLsbD 3 → s.ppu.ctrl.getLsbD 4 = t.ppu.ctrl.getLsbD 4 → frame s = frame t

/-- What an iNES image parses to, which images are a FormatError, which are refused, and the machine that an admitted image boots. R435 carries decision D28, R436 D21 and D28, R490 D15 and D16. Which reason a FormatError names when an image has two faults, and that a header byte past the end counts as 0, is the model's (notes/assumptions/11.md); that an image outside R436 is refused by name is DEDUCED (notes/assumptions/10.md). R490 is marked derived, in whole or in part, in the spec. -/
def Obligations.INesImageParses : Prop :=
  (∀ (h4 h5 h6 h7 : Byte) (ignored trainer prg chr extra : List Byte),
    h7.getLsbD 2 = false → h7.getLsbD 3 = false → ignored.length = 8 →
    trainer.length = (if h6.getLsbD 2 then 512 else 0) → prg.length = h4.toNat * 16384 → chr.length = h5.toNat * 8192 →
    ∃ im, parseINes ([0x4E, 0x45, 0x53, 0x1A, h4, h5, h6, h7] ++ ignored ++ trainer ++ prg ++ chr ++ extra) = .ok im ∧
      im.prg = prg ∧ im.chr = chr ∧ im.mapper.toNat = h6.toNat / 16 + 16 * (h7.toNat / 16) ∧
      im.mirroring = (if h6.getLsbD 3 then .fourScreen else if h6.getLsbD 0 then .vertical else .horizontal)) ∧
  (∀ img : List Byte,
    let h := fun k => img.getD k (0 : Byte)
    let magic : Bool := decide (img.take 4 = [0x4E, 0x45, 0x53, 0x1A])
    let nes2 : Bool := decide ((h 7).toNat / 4 % 4 ≠ 0)
    let size := (if (h 6).getLsbD 2 then 528 else 16) + (h 4).toNat * 16384 + (h 5).toNat * 8192
    (magic = false → parseINes img = .error .magic) ∧
    (magic = true → nes2 = true → parseINes img = .error .nes2) ∧
    (magic = true → nes2 = false → img.length < size → parseINes img = .error .length) ∧
    (magic = true → nes2 = false → size ≤ img.length → ∃ im, parseINes img = .ok im)) ∧
  (∀ (img : List Byte) (strict : Bool) (ram vram palette oam : Memory) (input : List (Byte × Byte)),
    let booted := boot img strict ram vram palette oam input
    (∀ e, parseINes img = .error e → booted = .fault (.formatError e)) ∧
    (∀ im, parseINes img = .ok im →
      let admitted := im.mapper = 0 ∧ (im.prg.length = 0x4000 ∨ im.prg.length = 0x8000) ∧ im.chr.length = 0x2000 ∧
        im.mirroring ≠ .fourScreen
      (admitted → ∃ cfg, admitImage im strict = some cfg ∧ booted = .next (powerOn cfg ram vram palette oam input) ∧
        (∀ k, cfg.prg.read k = im.prg.getD k 0) ∧ (∀ k, cfg.chr.read k = im.chr.getD k 0) ∧
        cfg.prgSize = (if im.prg.length = 0x4000 then .k16 else .k32) ∧ cfg.mapper = 0 ∧ cfg.strict = strict ∧
        cfg.mirroring = (if im.mirroring = .vertical then .vertical else .horizontal)) ∧
      (¬ admitted → admitImage im strict = none ∧ booted = .refused .cartridgeNotAdmitted)))

/-- Every step keeps the invariant: status bits, canonical memories inside their sizes, the PPU clock and vblank ranges, Status, joypads. The invariants of Safety.lean together. The spec states those of the status bits, the clock, VBLANK, Status and the joypads (R354 and R423 are marked derived there). Two clauses are the model's: stop = none (DESIGN CHOICE, notes/assumptions/3.md) and the canonical form of the memories (notes/assumptions/4.md, 8.md). Also, of the decisions of the spec: R34 carries D15 and D17 and D38; R39 carries D15. -/
def Obligations.StepKeepsInv : Prop :=
  ∀ s t : State, s.Inv → step s = .next t → t.Inv

/-- Every step keeps the PPU's position the function of the cycle count that the spec gives. R354 is marked derived in the spec. -/
def Obligations.StepKeepsTheClocksLocked : Prop :=
  ∀ s t : State, s.ClockLocked → step s = .next t → t.ClockLocked

/-- The machine after power-on meets both invariants, whatever its cartridge, its memory contents and its input. The base of the two invariants. R490 carries decisions D15 and D16, R495 D14. The canonical form of the memories is the model's (notes/assumptions/4.md, 8.md), and so is the clause stop = none of Inv (notes/assumptions/3.md); State.reset is the case of the blank cartridge and memories of zeros (notes/assumptions/4.md, 5.md). Also, of the decisions of the spec: R50 carries D7 and D42. R354, R490 are marked derived, in whole or in part, in the spec. -/
def Obligations.ResetMeetsTheInvariants : Prop :=
  (∀ (cfg : Config) (ram vram palette oam : Memory) (input : List (Byte × Byte)),
    ram.wf = true → ram.below 0x800 = true → vram.wf = true → vram.below 0x800 = true →
    palette.wf = true → palette.below 32 = true → oam.wf = true → oam.below 256 = true →
    (powerOn cfg ram vram palette oam input).Inv ∧ (powerOn cfg ram vram palette oam input).ClockLocked) ∧
  State.reset.Inv ∧ State.reset.ClockLocked
end

