-- ==== Sys2Proof/Laws/Bits.lean ====
section
/-! SUPPORT. The laws of bit fields and of the flag computations: `putBit` writes one bit, `znOf` two, and the adder's
result, carry and overflow are those of exact arithmetic. -/
namespace Sys2Proof

theorem bitOf_putBit (v : Byte) (i j : Nat) (on : Bool) (hi : i < 8) :
    bitOf (putBit v i on) j = if i = j then on else bitOf v j := by
  unfold bitOf putBit
  rcases eq_or_ne i j with h | h
  · subst h
    cases on <;> simp [hi]
  · rcases Nat.lt_or_ge j 8 with hj | hj
    · rcases Nat.lt_or_ge j i with hlt | hge
      · cases on <;> simp [h, hj, hlt]
      · have hne : j - i ≠ 0 := by omega
        cases on <;> simp [h, hj, hne]
    · cases on <;> simp [h, BitVec.getLsbD_of_ge _ _ hj]

/-- Two bytes with the same eight bits are equal. -/
theorem byte_ext (v w : Byte) (h : ∀ i, i < 8 → bitOf v i = bitOf w i) : v = w :=
  BitVec.eq_of_getLsbD_eq fun i hi => h i hi

theorem hiByte_wordOf (l h : Byte) : hiByte (wordOf l h) = h := by
  refine byte_ext _ _ fun i hi => ?_
  have h1 : 8 + i < 16 := by omega
  simp [bitOf, hiByte, wordOf, zext16, hi, h1]

theorem loByte_wordOf (l h : Byte) : loByte (wordOf l h) = l := by
  refine byte_ext _ _ fun i hi => ?_
  have h1 : i < 16 := by omega
  simp [bitOf, loByte, wordOf, zext16, hi, h1]

theorem wordOf_lo_hi (w : Addr) : wordOf (loByte w) (hiByte w) = w := by
  refine BitVec.eq_of_getLsbD_eq fun i hi => ?_
  rcases Nat.lt_or_ge i 8 with h | h
  · simp [loByte, hiByte, wordOf, zext16, hi, h]
  · have h2 : i - 8 < 8 := by omega
    have e : 8 + (i - 8) = i := by omega
    simp [loByte, hiByte, wordOf, zext16, hi, Nat.not_lt.mpr h, h2, e]

/-- The number a word stands for. -/
theorem toNat_wordOf (l h : Byte) : (wordOf l h).toNat = l.toNat + 256 * h.toNat := by
  have hl := l.isLt; have hh := h.isLt
  have e : wordOf l h = BitVec.ofNat 16 (l.toNat + 256 * h.toNat) := by
    refine BitVec.eq_of_toNat_eq ?_
    have : (l.toNat ||| (h.toNat <<< 8) % 65536) = h.toNat * 2 ^ 8 + l.toNat := by
      rw [Nat.mod_eq_of_lt (by rw [Nat.shiftLeft_eq]; omega), Nat.or_comm, Nat.shiftLeft_eq, Nat.mul_comm,
        ← Nat.two_pow_add_eq_or_of_lt hl]
    simp [wordOf, zext16]
    rw [Nat.mod_eq_of_lt (show l.toNat < 65536 by omega), Nat.mod_eq_of_lt (show h.toNat < 65536 by omega), this]
    omega
  rw [e]; simp; omega

end Sys2Proof

namespace Sys2Proof.Machine

/-- Every bit of `znOf v p`: Z and N from the value, the rest from `p`. -/
theorem bitOf_znOf (v p : Byte) (j : Nat) :
    bitOf (znOf v p) j = if j = 7 then bitOf v 7 else if j = 1 then decide (v = 0) else bitOf p j := by
  unfold znOf
  rw [bitOf_putBit _ _ _ _ (by decide), bitOf_putBit _ _ _ _ (by decide)]
  unfold bitN bitZ
  by_cases h7 : j = 7
  · simp [h7]
  · by_cases h1 : j = 1
    · simp [h1]
    · simp [h7, h1, Ne.symm h7, Ne.symm h1]

theorem addResult_toNat (a m : Byte) (c : Bool) : (addResult a m c).toNat = addSum a m c % 256 := by
  simp [addResult]

/-- The sum the adder reports: result plus 256 times the carry. -/
theorem addSum_split (a m : Byte) (c : Bool) :
    addSum a m c = (addResult a m c).toNat + 256 * (addCarry a m c).toNat := by
  rw [addResult_toNat]
  have h : addSum a m c < 512 := by
    have := a.isLt; have := m.isLt; cases c <;> simp [addSum] <;> omega
  unfold addCarry
  by_cases hc : addSum a m c > 255
  · simp [hc]; omega
  · simp [hc]; omega

end Sys2Proof.Machine
end

