-- ==== Sys2Proof/Laws/State.lean ====
section
/-! SUPPORT. One lemma per field per update of State, true by rfl: no later proof unfolds a record update. -/
namespace Sys2Proof.Machine

@[simp] theorem State.setA_a (v : Byte) (s : State) : (s.setA v).a = v := rfl
@[simp] theorem State.setA_x (v : Byte) (s : State) : (s.setA v).x = s.x := rfl
@[simp] theorem State.setA_y (v : Byte) (s : State) : (s.setA v).y = s.y := rfl
@[simp] theorem State.setA_sp (v : Byte) (s : State) : (s.setA v).sp = s.sp := rfl
@[simp] theorem State.setA_pc (v : Byte) (s : State) : (s.setA v).pc = s.pc := rfl
@[simp] theorem State.setA_p (v : Byte) (s : State) : (s.setA v).p = s.p := rfl
@[simp] theorem State.setA_halted (v : Byte) (s : State) : (s.setA v).halted = s.halted := rfl
@[simp] theorem State.setA_ram (v : Byte) (s : State) : (s.setA v).ram = s.ram := rfl
@[simp] theorem State.setA_cycles (v : Byte) (s : State) : (s.setA v).cycles = s.cycles := rfl
@[simp] theorem State.setA_ppu (v : Byte) (s : State) : (s.setA v).ppu = s.ppu := rfl
@[simp] theorem State.setA_joy0 (v : Byte) (s : State) : (s.setA v).joy0 = s.joy0 := rfl
@[simp] theorem State.setA_joy1 (v : Byte) (s : State) : (s.setA v).joy1 = s.joy1 := rfl
@[simp] theorem State.setA_cfg (v : Byte) (s : State) : (s.setA v).cfg = s.cfg := rfl
@[simp] theorem State.setA_input (v : Byte) (s : State) : (s.setA v).input = s.input := rfl
@[simp] theorem State.setA_events (v : Byte) (s : State) : (s.setA v).events = s.events := rfl
@[simp] theorem State.setA_stop (v : Byte) (s : State) : (s.setA v).stop = s.stop := rfl

@[simp] theorem State.setX_a (v : Byte) (s : State) : (s.setX v).a = s.a := rfl
@[simp] theorem State.setX_x (v : Byte) (s : State) : (s.setX v).x = v := rfl
@[simp] theorem State.setX_y (v : Byte) (s : State) : (s.setX v).y = s.y := rfl
@[simp] theorem State.setX_sp (v : Byte) (s : State) : (s.setX v).sp = s.sp := rfl
@[simp] theorem State.setX_pc (v : Byte) (s : State) : (s.setX v).pc = s.pc := rfl
@[simp] theorem State.setX_p (v : Byte) (s : State) : (s.setX v).p = s.p := rfl
@[simp] theorem State.setX_halted (v : Byte) (s : State) : (s.setX v).halted = s.halted := rfl
@[simp] theorem State.setX_ram (v : Byte) (s : State) : (s.setX v).ram = s.ram := rfl
@[simp] theorem State.setX_cycles (v : Byte) (s : State) : (s.setX v).cycles = s.cycles := rfl
@[simp] theorem State.setX_ppu (v : Byte) (s : State) : (s.setX v).ppu = s.ppu := rfl
@[simp] theorem State.setX_joy0 (v : Byte) (s : State) : (s.setX v).joy0 = s.joy0 := rfl
@[simp] theorem State.setX_joy1 (v : Byte) (s : State) : (s.setX v).joy1 = s.joy1 := rfl
@[simp] theorem State.setX_cfg (v : Byte) (s : State) : (s.setX v).cfg = s.cfg := rfl
@[simp] theorem State.setX_input (v : Byte) (s : State) : (s.setX v).input = s.input := rfl
@[simp] theorem State.setX_events (v : Byte) (s : State) : (s.setX v).events = s.events := rfl
@[simp] theorem State.setX_stop (v : Byte) (s : State) : (s.setX v).stop = s.stop := rfl

@[simp] theorem State.setY_a (v : Byte) (s : State) : (s.setY v).a = s.a := rfl
@[simp] theorem State.setY_x (v : Byte) (s : State) : (s.setY v).x = s.x := rfl
@[simp] theorem State.setY_y (v : Byte) (s : State) : (s.setY v).y = v := rfl
@[simp] theorem State.setY_sp (v : Byte) (s : State) : (s.setY v).sp = s.sp := rfl
@[simp] theorem State.setY_pc (v : Byte) (s : State) : (s.setY v).pc = s.pc := rfl
@[simp] theorem State.setY_p (v : Byte) (s : State) : (s.setY v).p = s.p := rfl
@[simp] theorem State.setY_halted (v : Byte) (s : State) : (s.setY v).halted = s.halted := rfl
@[simp] theorem State.setY_ram (v : Byte) (s : State) : (s.setY v).ram = s.ram := rfl
@[simp] theorem State.setY_cycles (v : Byte) (s : State) : (s.setY v).cycles = s.cycles := rfl
@[simp] theorem State.setY_ppu (v : Byte) (s : State) : (s.setY v).ppu = s.ppu := rfl
@[simp] theorem State.setY_joy0 (v : Byte) (s : State) : (s.setY v).joy0 = s.joy0 := rfl
@[simp] theorem State.setY_joy1 (v : Byte) (s : State) : (s.setY v).joy1 = s.joy1 := rfl
@[simp] theorem State.setY_cfg (v : Byte) (s : State) : (s.setY v).cfg = s.cfg := rfl
@[simp] theorem State.setY_input (v : Byte) (s : State) : (s.setY v).input = s.input := rfl
@[simp] theorem State.setY_events (v : Byte) (s : State) : (s.setY v).events = s.events := rfl
@[simp] theorem State.setY_stop (v : Byte) (s : State) : (s.setY v).stop = s.stop := rfl

@[simp] theorem State.setSp_a (v : Byte) (s : State) : (s.setSp v).a = s.a := rfl
@[simp] theorem State.setSp_x (v : Byte) (s : State) : (s.setSp v).x = s.x := rfl
@[simp] theorem State.setSp_y (v : Byte) (s : State) : (s.setSp v).y = s.y := rfl
@[simp] theorem State.setSp_sp (v : Byte) (s : State) : (s.setSp v).sp = v := rfl
@[simp] theorem State.setSp_pc (v : Byte) (s : State) : (s.setSp v).pc = s.pc := rfl
@[simp] theorem State.setSp_p (v : Byte) (s : State) : (s.setSp v).p = s.p := rfl
@[simp] theorem State.setSp_halted (v : Byte) (s : State) : (s.setSp v).halted = s.halted := rfl
@[simp] theorem State.setSp_ram (v : Byte) (s : State) : (s.setSp v).ram = s.ram := rfl
@[simp] theorem State.setSp_cycles (v : Byte) (s : State) : (s.setSp v).cycles = s.cycles := rfl
@[simp] theorem State.setSp_ppu (v : Byte) (s : State) : (s.setSp v).ppu = s.ppu := rfl
@[simp] theorem State.setSp_joy0 (v : Byte) (s : State) : (s.setSp v).joy0 = s.joy0 := rfl
@[simp] theorem State.setSp_joy1 (v : Byte) (s : State) : (s.setSp v).joy1 = s.joy1 := rfl
@[simp] theorem State.setSp_cfg (v : Byte) (s : State) : (s.setSp v).cfg = s.cfg := rfl
@[simp] theorem State.setSp_input (v : Byte) (s : State) : (s.setSp v).input = s.input := rfl
@[simp] theorem State.setSp_events (v : Byte) (s : State) : (s.setSp v).events = s.events := rfl
@[simp] theorem State.setSp_stop (v : Byte) (s : State) : (s.setSp v).stop = s.stop := rfl

@[simp] theorem State.setPc_a (v : Addr) (s : State) : (s.setPc v).a = s.a := rfl
@[simp] theorem State.setPc_x (v : Addr) (s : State) : (s.setPc v).x = s.x := rfl
@[simp] theorem State.setPc_y (v : Addr) (s : State) : (s.setPc v).y = s.y := rfl
@[simp] theorem State.setPc_sp (v : Addr) (s : State) : (s.setPc v).sp = s.sp := rfl
@[simp] theorem State.setPc_pc (v : Addr) (s : State) : (s.setPc v).pc = v := rfl
@[simp] theorem State.setPc_p (v : Addr) (s : State) : (s.setPc v).p = s.p := rfl
@[simp] theorem State.setPc_halted (v : Addr) (s : State) : (s.setPc v).halted = s.halted := rfl
@[simp] theorem State.setPc_ram (v : Addr) (s : State) : (s.setPc v).ram = s.ram := rfl
@[simp] theorem State.setPc_cycles (v : Addr) (s : State) : (s.setPc v).cycles = s.cycles := rfl
@[simp] theorem State.setPc_ppu (v : Addr) (s : State) : (s.setPc v).ppu = s.ppu := rfl
@[simp] theorem State.setPc_joy0 (v : Addr) (s : State) : (s.setPc v).joy0 = s.joy0 := rfl
@[simp] theorem State.setPc_joy1 (v : Addr) (s : State) : (s.setPc v).joy1 = s.joy1 := rfl
@[simp] theorem State.setPc_cfg (v : Addr) (s : State) : (s.setPc v).cfg = s.cfg := rfl
@[simp] theorem State.setPc_input (v : Addr) (s : State) : (s.setPc v).input = s.input := rfl
@[simp] theorem State.setPc_events (v : Addr) (s : State) : (s.setPc v).events = s.events := rfl
@[simp] theorem State.setPc_stop (v : Addr) (s : State) : (s.setPc v).stop = s.stop := rfl

@[simp] theorem State.setP_a (v : Byte) (s : State) : (s.setP v).a = s.a := rfl
@[simp] theorem State.setP_x (v : Byte) (s : State) : (s.setP v).x = s.x := rfl
@[simp] theorem State.setP_y (v : Byte) (s : State) : (s.setP v).y = s.y := rfl
@[simp] theorem State.setP_sp (v : Byte) (s : State) : (s.setP v).sp = s.sp := rfl
@[simp] theorem State.setP_pc (v : Byte) (s : State) : (s.setP v).pc = s.pc := rfl
@[simp] theorem State.setP_p (v : Byte) (s : State) : (s.setP v).p = v := rfl
@[simp] theorem State.setP_halted (v : Byte) (s : State) : (s.setP v).halted = s.halted := rfl
@[simp] theorem State.setP_ram (v : Byte) (s : State) : (s.setP v).ram = s.ram := rfl
@[simp] theorem State.setP_cycles (v : Byte) (s : State) : (s.setP v).cycles = s.cycles := rfl
@[simp] theorem State.setP_ppu (v : Byte) (s : State) : (s.setP v).ppu = s.ppu := rfl
@[simp] theorem State.setP_joy0 (v : Byte) (s : State) : (s.setP v).joy0 = s.joy0 := rfl
@[simp] theorem State.setP_joy1 (v : Byte) (s : State) : (s.setP v).joy1 = s.joy1 := rfl
@[simp] theorem State.setP_cfg (v : Byte) (s : State) : (s.setP v).cfg = s.cfg := rfl
@[simp] theorem State.setP_input (v : Byte) (s : State) : (s.setP v).input = s.input := rfl
@[simp] theorem State.setP_events (v : Byte) (s : State) : (s.setP v).events = s.events := rfl
@[simp] theorem State.setP_stop (v : Byte) (s : State) : (s.setP v).stop = s.stop := rfl

@[simp] theorem State.setFlag_a (i : Nat) (on : Bool) (s : State) : (s.setFlag i on).a = s.a := rfl
@[simp] theorem State.setFlag_x (i : Nat) (on : Bool) (s : State) : (s.setFlag i on).x = s.x := rfl
@[simp] theorem State.setFlag_y (i : Nat) (on : Bool) (s : State) : (s.setFlag i on).y = s.y := rfl
@[simp] theorem State.setFlag_sp (i : Nat) (on : Bool) (s : State) : (s.setFlag i on).sp = s.sp := rfl
@[simp] theorem State.setFlag_pc (i : Nat) (on : Bool) (s : State) : (s.setFlag i on).pc = s.pc := rfl
@[simp] theorem State.setFlag_p (i : Nat) (on : Bool) (s : State) : (s.setFlag i on).p = putBit s.p i on := rfl
@[simp] theorem State.setFlag_halted (i : Nat) (on : Bool) (s : State) : (s.setFlag i on).halted = s.halted := rfl
@[simp] theorem State.setFlag_ram (i : Nat) (on : Bool) (s : State) : (s.setFlag i on).ram = s.ram := rfl
@[simp] theorem State.setFlag_cycles (i : Nat) (on : Bool) (s : State) : (s.setFlag i on).cycles = s.cycles := rfl
@[simp] theorem State.setFlag_ppu (i : Nat) (on : Bool) (s : State) : (s.setFlag i on).ppu = s.ppu := rfl
@[simp] theorem State.setFlag_joy0 (i : Nat) (on : Bool) (s : State) : (s.setFlag i on).joy0 = s.joy0 := rfl
@[simp] theorem State.setFlag_joy1 (i : Nat) (on : Bool) (s : State) : (s.setFlag i on).joy1 = s.joy1 := rfl
@[simp] theorem State.setFlag_cfg (i : Nat) (on : Bool) (s : State) : (s.setFlag i on).cfg = s.cfg := rfl
@[simp] theorem State.setFlag_input (i : Nat) (on : Bool) (s : State) : (s.setFlag i on).input = s.input := rfl
@[simp] theorem State.setFlag_events (i : Nat) (on : Bool) (s : State) : (s.setFlag i on).events = s.events := rfl
@[simp] theorem State.setFlag_stop (i : Nat) (on : Bool) (s : State) : (s.setFlag i on).stop = s.stop := rfl

@[simp] theorem State.setZN_a (v : Byte) (s : State) : (s.setZN v).a = s.a := rfl
@[simp] theorem State.setZN_x (v : Byte) (s : State) : (s.setZN v).x = s.x := rfl
@[simp] theorem State.setZN_y (v : Byte) (s : State) : (s.setZN v).y = s.y := rfl
@[simp] theorem State.setZN_sp (v : Byte) (s : State) : (s.setZN v).sp = s.sp := rfl
@[simp] theorem State.setZN_pc (v : Byte) (s : State) : (s.setZN v).pc = s.pc := rfl
@[simp] theorem State.setZN_p (v : Byte) (s : State) : (s.setZN v).p = znOf v s.p := rfl
@[simp] theorem State.setZN_halted (v : Byte) (s : State) : (s.setZN v).halted = s.halted := rfl
@[simp] theorem State.setZN_ram (v : Byte) (s : State) : (s.setZN v).ram = s.ram := rfl
@[simp] theorem State.setZN_cycles (v : Byte) (s : State) : (s.setZN v).cycles = s.cycles := rfl
@[simp] theorem State.setZN_ppu (v : Byte) (s : State) : (s.setZN v).ppu = s.ppu := rfl
@[simp] theorem State.setZN_joy0 (v : Byte) (s : State) : (s.setZN v).joy0 = s.joy0 := rfl
@[simp] theorem State.setZN_joy1 (v : Byte) (s : State) : (s.setZN v).joy1 = s.joy1 := rfl
@[simp] theorem State.setZN_cfg (v : Byte) (s : State) : (s.setZN v).cfg = s.cfg := rfl
@[simp] theorem State.setZN_input (v : Byte) (s : State) : (s.setZN v).input = s.input := rfl
@[simp] theorem State.setZN_events (v : Byte) (s : State) : (s.setZN v).events = s.events := rfl
@[simp] theorem State.setZN_stop (v : Byte) (s : State) : (s.setZN v).stop = s.stop := rfl

@[simp] theorem emit_a (e : Event) (s : State) : (emit e s).a = s.a := rfl
@[simp] theorem emit_x (e : Event) (s : State) : (emit e s).x = s.x := rfl
@[simp] theorem emit_y (e : Event) (s : State) : (emit e s).y = s.y := rfl
@[simp] theorem emit_sp (e : Event) (s : State) : (emit e s).sp = s.sp := rfl
@[simp] theorem emit_pc (e : Event) (s : State) : (emit e s).pc = s.pc := rfl
@[simp] theorem emit_p (e : Event) (s : State) : (emit e s).p = s.p := rfl
@[simp] theorem emit_halted (e : Event) (s : State) : (emit e s).halted = s.halted := rfl
@[simp] theorem emit_ram (e : Event) (s : State) : (emit e s).ram = s.ram := rfl
@[simp] theorem emit_cycles (e : Event) (s : State) : (emit e s).cycles = s.cycles := rfl
@[simp] theorem emit_ppu (e : Event) (s : State) : (emit e s).ppu = s.ppu := rfl
@[simp] theorem emit_joy0 (e : Event) (s : State) : (emit e s).joy0 = s.joy0 := rfl
@[simp] theorem emit_joy1 (e : Event) (s : State) : (emit e s).joy1 = s.joy1 := rfl
@[simp] theorem emit_cfg (e : Event) (s : State) : (emit e s).cfg = s.cfg := rfl
@[simp] theorem emit_input (e : Event) (s : State) : (emit e s).input = s.input := rfl
@[simp] theorem emit_events (e : Event) (s : State) : (emit e s).events = e :: s.events := rfl
@[simp] theorem emit_stop (e : Event) (s : State) : (emit e s).stop = s.stop := rfl

@[simp] theorem logAt_a (k : LogKind) (a : Addr) (s : State) : (logAt k a s).a = s.a := rfl
@[simp] theorem logAt_x (k : LogKind) (a : Addr) (s : State) : (logAt k a s).x = s.x := rfl
@[simp] theorem logAt_y (k : LogKind) (a : Addr) (s : State) : (logAt k a s).y = s.y := rfl
@[simp] theorem logAt_sp (k : LogKind) (a : Addr) (s : State) : (logAt k a s).sp = s.sp := rfl
@[simp] theorem logAt_pc (k : LogKind) (a : Addr) (s : State) : (logAt k a s).pc = s.pc := rfl
@[simp] theorem logAt_p (k : LogKind) (a : Addr) (s : State) : (logAt k a s).p = s.p := rfl
@[simp] theorem logAt_halted (k : LogKind) (a : Addr) (s : State) : (logAt k a s).halted = s.halted := rfl
@[simp] theorem logAt_ram (k : LogKind) (a : Addr) (s : State) : (logAt k a s).ram = s.ram := rfl
@[simp] theorem logAt_cycles (k : LogKind) (a : Addr) (s : State) : (logAt k a s).cycles = s.cycles := rfl
@[simp] theorem logAt_ppu (k : LogKind) (a : Addr) (s : State) : (logAt k a s).ppu = s.ppu := rfl
@[simp] theorem logAt_joy0 (k : LogKind) (a : Addr) (s : State) : (logAt k a s).joy0 = s.joy0 := rfl
@[simp] theorem logAt_joy1 (k : LogKind) (a : Addr) (s : State) : (logAt k a s).joy1 = s.joy1 := rfl
@[simp] theorem logAt_cfg (k : LogKind) (a : Addr) (s : State) : (logAt k a s).cfg = s.cfg := rfl
@[simp] theorem logAt_input (k : LogKind) (a : Addr) (s : State) : (logAt k a s).input = s.input := rfl
@[simp] theorem logAt_events (k : LogKind) (a : Addr) (s : State) : (logAt k a s).events = .log k a :: s.events := rfl
@[simp] theorem logAt_stop (k : LogKind) (a : Addr) (s : State) : (logAt k a s).stop = s.stop := rfl

@[simp] theorem pollNmi_a  (s : State) : (pollNmi s).a = s.a := rfl
@[simp] theorem pollNmi_x  (s : State) : (pollNmi s).x = s.x := rfl
@[simp] theorem pollNmi_y  (s : State) : (pollNmi s).y = s.y := rfl
@[simp] theorem pollNmi_sp  (s : State) : (pollNmi s).sp = s.sp := rfl
@[simp] theorem pollNmi_pc  (s : State) : (pollNmi s).pc = s.pc := rfl
@[simp] theorem pollNmi_p  (s : State) : (pollNmi s).p = s.p := rfl
@[simp] theorem pollNmi_halted  (s : State) : (pollNmi s).halted = s.halted := rfl
@[simp] theorem pollNmi_ram  (s : State) : (pollNmi s).ram = s.ram := rfl
@[simp] theorem pollNmi_cycles  (s : State) : (pollNmi s).cycles = s.cycles := rfl
@[simp] theorem pollNmi_ppu  (s : State) : (pollNmi s).ppu = { s.ppu with nmiPending := false } := rfl
@[simp] theorem pollNmi_joy0  (s : State) : (pollNmi s).joy0 = s.joy0 := rfl
@[simp] theorem pollNmi_joy1  (s : State) : (pollNmi s).joy1 = s.joy1 := rfl
@[simp] theorem pollNmi_cfg  (s : State) : (pollNmi s).cfg = s.cfg := rfl
@[simp] theorem pollNmi_input  (s : State) : (pollNmi s).input = s.input := rfl
@[simp] theorem pollNmi_events  (s : State) : (pollNmi s).events = s.events := rfl
@[simp] theorem pollNmi_stop  (s : State) : (pollNmi s).stop = s.stop := rfl

@[simp] theorem advancePc_a (i : Instr) (s : State) : (advancePc i s).a = s.a := rfl
@[simp] theorem advancePc_x (i : Instr) (s : State) : (advancePc i s).x = s.x := rfl
@[simp] theorem advancePc_y (i : Instr) (s : State) : (advancePc i s).y = s.y := rfl
@[simp] theorem advancePc_sp (i : Instr) (s : State) : (advancePc i s).sp = s.sp := rfl
@[simp] theorem advancePc_pc (i : Instr) (s : State) : (advancePc i s).pc = s.pc + BitVec.ofNat 16 (i.len - 1) := rfl
@[simp] theorem advancePc_p (i : Instr) (s : State) : (advancePc i s).p = s.p := rfl
@[simp] theorem advancePc_halted (i : Instr) (s : State) : (advancePc i s).halted = s.halted := rfl
@[simp] theorem advancePc_ram (i : Instr) (s : State) : (advancePc i s).ram = s.ram := rfl
@[simp] theorem advancePc_cycles (i : Instr) (s : State) : (advancePc i s).cycles = s.cycles := rfl
@[simp] theorem advancePc_ppu (i : Instr) (s : State) : (advancePc i s).ppu = s.ppu := rfl
@[simp] theorem advancePc_joy0 (i : Instr) (s : State) : (advancePc i s).joy0 = s.joy0 := rfl
@[simp] theorem advancePc_joy1 (i : Instr) (s : State) : (advancePc i s).joy1 = s.joy1 := rfl
@[simp] theorem advancePc_cfg (i : Instr) (s : State) : (advancePc i s).cfg = s.cfg := rfl
@[simp] theorem advancePc_input (i : Instr) (s : State) : (advancePc i s).input = s.input := rfl
@[simp] theorem advancePc_events (i : Instr) (s : State) : (advancePc i s).events = s.events := rfl
@[simp] theorem advancePc_stop (i : Instr) (s : State) : (advancePc i s).stop = s.stop := rfl

end Sys2Proof.Machine
end

