-- ==== Sys2Proof/Laws/Bus.lean ====
section
/-! SUPPORT. What the Bus operations, the stack helpers and the effective address can do, said once each: the cases of a
read and of a write, and the fields that each operation leaves alone. -/
namespace Sys2Proof.Machine

/-- Everything a Bus read can do to the state (20_memory.md R99): nothing, a Status read, a data-port read, a joypad read, a
record of an unmapped address, or an InvalidAccess. -/
theorem busRead_effect (a : Addr) (s : State) :
    (busRead a s).2 = s ∨ (busRead a s).2 = { s with ppu := s.ppu.readStatus.2 } ∨
    (busRead a s).2 = (ppuReadData s).2 ∨ (busRead a s).2 = { s with joy0 := s.joy0.read.2 } ∨
    (busRead a s).2 = { s with joy1 := s.joy1.read.2 } ∨ (busRead a s).2 = logAt .unmapped a s ∨
    (busRead a s).2 = invalidAccess .readWriteOnly a s := by
  unfold busRead ppuRegRead
  split_ifs <;> simp

/-- Everything a Bus write can do to the state (20_memory.md R73), by the region and register written. -/
theorem busWrite_effect (a : Addr) (v : Byte) (s : State) :
    busWrite a v s = { s with ram := s.ram.write (ramIndex a) v } ∨
    busWrite a v s = { s with ppu := s.ppu.writeCtrl v } ∨ busWrite a v s = { s with ppu := s.ppu.writeMask v } ∨
    busWrite a v s = invalidAccess .writeStatus a s ∨ busWrite a v s = { s with ppu := s.ppu.writeOamAddr v } ∨
    busWrite a v s = { s with ppu := s.ppu.writeOamData v } ∨ busWrite a v s = { s with ppu := s.ppu.writeScroll v } ∨
    busWrite a v s = { s with ppu := s.ppu.writeAddr v } ∨ busWrite a v s = ppuWriteData v s ∨
    busWrite a v s = oamDma v s ∨
    busWrite a v s = { s with joy0 := s.joy0.strobeWrite v, joy1 := s.joy1.strobeWrite v } ∨
    busWrite a v s = s ∨ busWrite a v s = logAt .unmapped a s ∨ busWrite a v s = invalidAccess .writeRom a s := by
  unfold busWrite ppuRegWrite
  split_ifs <;> simp

/-- The fields that no Bus access changes: the CPU's registers, the cycle count, the configuration and the host's input. -/
structure CpuSame (s t : State) : Prop where
  a : t.a = s.a
  x : t.x = s.x
  y : t.y = s.y
  sp : t.sp = s.sp
  pc : t.pc = s.pc
  p : t.p = s.p
  halted : t.halted = s.halted
  cycles : t.cycles = s.cycles
  cfg : t.cfg = s.cfg
  input : t.input = s.input

theorem CpuSame.refl (s : State) : CpuSame s s := ⟨rfl, rfl, rfl, rfl, rfl, rfl, rfl, rfl, rfl, rfl⟩

theorem CpuSame.trans {s t u : State} (h : CpuSame s t) (k : CpuSame t u) : CpuSame s u :=
  ⟨k.a.trans h.a, k.x.trans h.x, k.y.trans h.y, k.sp.trans h.sp, k.pc.trans h.pc, k.p.trans h.p,
    k.halted.trans h.halted, k.cycles.trans h.cycles, k.cfg.trans h.cfg, k.input.trans h.input⟩

theorem invalidAccess_cpuSame (k : InvalidKind) (a : Addr) (s : State) : CpuSame s (invalidAccess k a s) := by
  unfold invalidAccess
  split_ifs
  · split <;> exact ⟨rfl, rfl, rfl, rfl, rfl, rfl, rfl, rfl, rfl, rfl⟩
  · exact ⟨rfl, rfl, rfl, rfl, rfl, rfl, rfl, rfl, rfl, rfl⟩

/-- An InvalidAccess leaves RAM, the PPU and the joypads alone: it is a record or a stop. -/
theorem invalidAccess_devices (k : InvalidKind) (a : Addr) (s : State) :
    (invalidAccess k a s).ram = s.ram ∧ (invalidAccess k a s).ppu = s.ppu ∧
    (invalidAccess k a s).joy0 = s.joy0 ∧ (invalidAccess k a s).joy1 = s.joy1 := by
  unfold invalidAccess
  split_ifs
  · split <;> simp
  · simp

theorem ppuReadData_cpuSame (s : State) : CpuSame s (ppuReadData s).2 := by
  unfold ppuReadData
  dsimp only
  split_ifs <;> exact ⟨rfl, rfl, rfl, rfl, rfl, rfl, rfl, rfl, rfl, rfl⟩

theorem ppuReadData_ram (s : State) : (ppuReadData s).2.ram = s.ram := by
  unfold ppuReadData
  dsimp only
  split_ifs <;> rfl

theorem ppuWriteData_cpuSame (v : Byte) (s : State) : CpuSame s (ppuWriteData v s) := by
  unfold ppuWriteData ppuWrite
  dsimp only
  split_ifs <;> exact ⟨rfl, rfl, rfl, rfl, rfl, rfl, rfl, rfl, rfl, rfl⟩

theorem busRead_cpuSame (a : Addr) (s : State) : CpuSame s (busRead a s).2 := by
  rcases busRead_effect a s with h | h | h | h | h | h | h <;> rw [h]
  · exact CpuSame.refl s
  · exact ⟨rfl, rfl, rfl, rfl, rfl, rfl, rfl, rfl, rfl, rfl⟩
  · exact ppuReadData_cpuSame s
  · exact ⟨rfl, rfl, rfl, rfl, rfl, rfl, rfl, rfl, rfl, rfl⟩
  · exact ⟨rfl, rfl, rfl, rfl, rfl, rfl, rfl, rfl, rfl, rfl⟩
  · exact ⟨rfl, rfl, rfl, rfl, rfl, rfl, rfl, rfl, rfl, rfl⟩
  · exact invalidAccess_cpuSame _ _ _

/-- A Bus read does not write RAM. -/
@[simp] theorem busRead_ram (a : Addr) (s : State) : (busRead a s).2.ram = s.ram := by
  rcases busRead_effect a s with h | h | h | h | h | h | h <;> rw [h]
  · exact ppuReadData_ram s
  · rfl
  · exact (invalidAccess_devices _ _ _).1

/-- The PPU fields that no Bus read changes: all but Status, the latches, the buffer and the address. -/
structure PpuReadSame (p q : Ppu) : Prop where
  ctrl : q.ctrl = p.ctrl
  mask : q.mask = p.mask
  oamAddr : q.oamAddr = p.oamAddr
  scrollX : q.scrollX = p.scrollX
  scrollY : q.scrollY = p.scrollY
  scanline : q.scanline = p.scanline
  cycle : q.cycle = p.cycle
  nmiPending : q.nmiPending = p.nmiPending
  vram : q.vram = p.vram
  palette : q.palette = p.palette
  oam : q.oam = p.oam

theorem PpuReadSame.refl (p : Ppu) : PpuReadSame p p := ⟨rfl, rfl, rfl, rfl, rfl, rfl, rfl, rfl, rfl, rfl, rfl⟩

theorem PpuReadSame.trans {p q r : Ppu} (h : PpuReadSame p q) (k : PpuReadSame q r) : PpuReadSame p r :=
  ⟨k.ctrl.trans h.ctrl, k.mask.trans h.mask, k.oamAddr.trans h.oamAddr, k.scrollX.trans h.scrollX,
    k.scrollY.trans h.scrollY, k.scanline.trans h.scanline, k.cycle.trans h.cycle,
    k.nmiPending.trans h.nmiPending, k.vram.trans h.vram, k.palette.trans h.palette, k.oam.trans h.oam⟩

theorem busRead_ppuSame (a : Addr) (s : State) : PpuReadSame s.ppu (busRead a s).2.ppu := by
  rcases busRead_effect a s with h | h | h | h | h | h | h <;> rw [h]
  · exact PpuReadSame.refl _
  · exact ⟨rfl, rfl, rfl, rfl, rfl, rfl, rfl, rfl, rfl, rfl, rfl⟩
  · unfold ppuReadData
    dsimp only
    split_ifs <;> exact ⟨rfl, rfl, rfl, rfl, rfl, rfl, rfl, rfl, rfl, rfl, rfl⟩
  · exact PpuReadSame.refl _
  · exact PpuReadSame.refl _
  · exact PpuReadSame.refl _
  · rw [(invalidAccess_devices _ _ _).2.1]; exact PpuReadSame.refl _

/-- A permissive machine's accesses raise no stop. -/
theorem invalidAccess_stop (k : InvalidKind) (a : Addr) (s : State) (h : s.cfg.strict = false) :
    (invalidAccess k a s).stop = s.stop := by
  simp [invalidAccess, h]

theorem busRead_stop (a : Addr) (s : State) (h : s.cfg.strict = false) : (busRead a s).2.stop = s.stop := by
  rcases busRead_effect a s with e | e | e | e | e | e | e <;> rw [e]
  · unfold ppuReadData
    dsimp only
    split_ifs <;> rfl
  · rfl
  · exact invalidAccess_stop _ _ _ h

theorem busReadRun_cpuSame : ∀ (n : Nat) (a : Addr) (s : State), CpuSame s (busReadRun n a s).2
  | 0, _, s => CpuSame.refl s
  | n + 1, a, s => (busRead_cpuSame a s).trans (busReadRun_cpuSame n (a + 1) (busRead a s).2)

theorem busReadRun_ram : ∀ (n : Nat) (a : Addr) (s : State), (busReadRun n a s).2.ram = s.ram
  | 0, _, _ => rfl
  | n + 1, a, s => (busReadRun_ram n (a + 1) (busRead a s).2).trans (busRead_ram a s)

theorem busReadRun_stop : ∀ (n : Nat) (a : Addr) (s : State), s.cfg.strict = false →
    (busReadRun n a s).2.stop = s.stop
  | 0, _, _, _ => rfl
  | n + 1, a, s, h =>
    (busReadRun_stop n (a + 1) (busRead a s).2 (by rw [(busRead_cpuSame a s).cfg]; exact h)).trans (busRead_stop a s h)

theorem busReadRun_length : ∀ (n : Nat) (a : Addr) (s : State), (busReadRun n a s).1.length = n
  | 0, _, _ => rfl
  | n + 1, a, s => by simp [busReadRun, busReadRun_length n]

/-- OamDma is a run of reads, then writes to the PPU's OAM alone: what a run of reads gives holds of it. -/
theorem oamDma_split (v : Byte) (s : State) (P : State → Prop) (hp : ∀ (t : State) (q : Ppu), P t → P { t with ppu := q })
    (h : ∀ n a, P (busReadRun n a s).2) : P (oamDma v s) := hp _ _ (h _ _)

theorem oamDma_cpuSame (v : Byte) (s : State) : CpuSame s (oamDma v s) :=
  oamDma_split v s (CpuSame s) (fun _ _ k => ⟨k.a, k.x, k.y, k.sp, k.pc, k.p, k.halted, k.cycles, k.cfg, k.input⟩)
    (fun n a => busReadRun_cpuSame n a s)

theorem oamDma_ram (v : Byte) (s : State) : (oamDma v s).ram = s.ram :=
  oamDma_split v s (fun t => t.ram = s.ram) (fun _ _ k => k) (fun n a => busReadRun_ram n a s)

theorem oamDma_stop (v : Byte) (s : State) (h : s.cfg.strict = false) : (oamDma v s).stop = s.stop :=
  oamDma_split v s (fun t => t.stop = s.stop) (fun _ _ k => k) (fun n a => busReadRun_stop n a s h)

theorem ppuWriteData_ram (v : Byte) (s : State) : (ppuWriteData v s).ram = s.ram := by
  unfold ppuWriteData ppuWrite
  dsimp only
  split_ifs <;> rfl

theorem ppuWriteData_stop (v : Byte) (s : State) : (ppuWriteData v s).stop = s.stop := by
  unfold ppuWriteData ppuWrite
  dsimp only
  split_ifs <;> rfl

theorem busWrite_cpuSame (a : Addr) (v : Byte) (s : State) : CpuSame s (busWrite a v s) := by
  rcases busWrite_effect a v s with h | h | h | h | h | h | h | h | h | h | h | h | h | h <;> rw [h] <;>
    first
    | with_reducible exact invalidAccess_cpuSame _ _ _
    | with_reducible exact ppuWriteData_cpuSame _ _
    | with_reducible exact oamDma_cpuSame _ _
    | exact ⟨rfl, rfl, rfl, rfl, rfl, rfl, rfl, rfl, rfl, rfl⟩

theorem busWrite_stop (a : Addr) (v : Byte) (s : State) (h : s.cfg.strict = false) :
    (busWrite a v s).stop = s.stop := by
  rcases busWrite_effect a v s with e | e | e | e | e | e | e | e | e | e | e | e | e | e <;> rw [e] <;>
    first
    | with_reducible exact invalidAccess_stop _ _ _ h
    | with_reducible exact ppuWriteData_stop _ _
    | with_reducible exact oamDma_stop _ _ h
    | simp

theorem ppuRegWrite_ram (a : Addr) (v : Byte) (s : State) : (ppuRegWrite a v s).ram = s.ram := by
  unfold ppuRegWrite
  split_ifs <;> first | exact (invalidAccess_devices _ _ _).1 | exact ppuWriteData_ram _ _ | rfl

/-- A write outside RAM leaves RAM alone. -/
theorem busWrite_ram_of_ge (a : Addr) (v : Byte) (s : State) (h : 0x2000 ≤ a.toNat) : (busWrite a v s).ram = s.ram := by
  have h0 : ¬ a.toNat < 0x2000 := by omega
  unfold busWrite
  rw [if_neg h0]
  split_ifs <;>
    first
    | with_reducible exact ppuRegWrite_ram _ _ _
    | with_reducible exact oamDma_ram _ _
    | with_reducible exact (invalidAccess_devices _ _ _).1
    | rfl

theorem busWrite_of_lt (a : Addr) (v : Byte) (s : State) (h : a.toNat < 0x2000) :
    busWrite a v s = { s with ram := s.ram.write (ramIndex a) v } := by
  unfold busWrite
  rw [if_pos h]

theorem busRead_of_lt (a : Addr) (s : State) (h : a.toNat < 0x2000) : busRead a s = (s.ram.read (ramIndex a), s) := by
  unfold busRead
  rw [if_pos h]

/-- The PPU's memories and clock are out of reach of a write below 0x2000. -/
theorem busWrite_ppu_of_lt (a : Addr) (v : Byte) (s : State) (h : a.toNat < 0x2000) : (busWrite a v s).ppu = s.ppu := by
  rw [busWrite_of_lt a v s h]

theorem ramIndex_lt (a : Addr) : ramIndex a < 0x800 := by
  unfold ramIndex
  have h : (a &&& 0x07FF#16).toNat ≤ 0x07FF := by
    simpa using Nat.and_le_right (n := a.toNat) (m := 0x07FF)
  omega

theorem stackAddr_toNat (sp : Byte) : (stackAddr sp).toNat = 0x100 + sp.toNat := by
  have := sp.isLt
  simp [stackAddr, zext16]
  omega

theorem stackAddr_lt (sp : Byte) : (stackAddr sp).toNat < 0x2000 := by
  rw [stackAddr_toNat]
  have := sp.isLt
  omega

/-- What a push does: one RAM byte and SP (40_cpu_step_addressing.md R175). -/
theorem push_eq (v : Byte) (s : State) :
    push v s = { s with ram := s.ram.write (ramIndex (stackAddr s.sp)) v, sp := s.sp - 1 } := by
  unfold push
  rw [busWrite_of_lt _ _ _ (stackAddr_lt s.sp)]
  rfl

/-- What a pull does: SP, and the RAM byte it answers (40_cpu_step_addressing.md R176). -/
theorem pull_eq (s : State) : pull s = (s.ram.read (ramIndex (stackAddr (s.sp + 1))), { s with sp := s.sp + 1 }) := by
  unfold pull
  rw [busRead_of_lt _ _ (stackAddr_lt _)]
  rfl

theorem busRead16_cpuSame (a : Addr) (s : State) : CpuSame s (busRead16 a s).2 :=
  (busRead_cpuSame a s).trans (busRead_cpuSame (a + 1) (busRead a s).2)

theorem busRead16_ram (a : Addr) (s : State) : (busRead16 a s).2.ram = s.ram := by
  simp [busRead16]

theorem busRead16_stop (a : Addr) (s : State) (h : s.cfg.strict = false) : (busRead16 a s).2.stop = s.stop :=
  (busRead_stop (a + 1) (busRead a s).2 (by rw [(busRead_cpuSame a s).cfg]; exact h)).trans (busRead_stop a s h)

theorem zeroPagePointer_cpuSame (p : Byte) (s : State) : CpuSame s (zeroPagePointer p s).2 :=
  (busRead_cpuSame _ s).trans (busRead_cpuSame _ (busRead (zext16 p) s).2)

theorem zext16_lt (b : Byte) : (zext16 b).toNat < 0x100 := by
  have := b.isLt
  simp [zext16]
  omega

/-- A pointer in page 0 is read from RAM, so nothing changes. -/
theorem zeroPagePointer_eq (p : Byte) (s : State) :
    zeroPagePointer p s = (wordOf (s.ram.read (ramIndex (zext16 p))) (s.ram.read (ramIndex (zext16 (p + 1)))), s) := by
  unfold zeroPagePointer
  rw [busRead_of_lt _ _ (lt_trans (zext16_lt p) (by decide))]
  dsimp only
  rw [busRead_of_lt _ _ (lt_trans (zext16_lt (p + 1)) (by decide))]

theorem effAddr_cpuSame (m : DataMode) (s : State) : CpuSame s (effAddr m s).2 := by
  cases m
  case imm => exact CpuSame.refl s
  case zp | zpx | zpy => exact busRead_cpuSame s.pc s
  case abs | abx | aby => exact busRead16_cpuSame s.pc s
  case izx => exact (busRead_cpuSame s.pc s).trans (zeroPagePointer_cpuSame _ _)
  case izy => exact (busRead_cpuSame s.pc s).trans (zeroPagePointer_cpuSame _ _)

theorem effAddr_ram (m : DataMode) (s : State) : (effAddr m s).2.ram = s.ram := by
  cases m <;> simp [effAddr, busRead16_ram, zeroPagePointer_eq]

theorem effAddr_stop (m : DataMode) (s : State) (h : s.cfg.strict = false) : (effAddr m s).2.stop = s.stop := by
  cases m
  case imm => rfl
  case zp | zpx | zpy => exact busRead_stop s.pc s h
  case abs | abx | aby => exact busRead16_stop s.pc s h
  case izx | izy => simp only [effAddr, zeroPagePointer_eq]; exact busRead_stop s.pc s h

@[simp] theorem busRead_a (a : Addr) (s : State) : (busRead a s).2.a = s.a := (busRead_cpuSame a s).a
@[simp] theorem busRead_x (a : Addr) (s : State) : (busRead a s).2.x = s.x := (busRead_cpuSame a s).x
@[simp] theorem busRead_y (a : Addr) (s : State) : (busRead a s).2.y = s.y := (busRead_cpuSame a s).y
@[simp] theorem busRead_sp (a : Addr) (s : State) : (busRead a s).2.sp = s.sp := (busRead_cpuSame a s).sp
@[simp] theorem busRead_pc (a : Addr) (s : State) : (busRead a s).2.pc = s.pc := (busRead_cpuSame a s).pc
@[simp] theorem busRead_p (a : Addr) (s : State) : (busRead a s).2.p = s.p := (busRead_cpuSame a s).p
@[simp] theorem busRead_halted (a : Addr) (s : State) : (busRead a s).2.halted = s.halted := (busRead_cpuSame a s).halted
@[simp] theorem busRead_cycles (a : Addr) (s : State) : (busRead a s).2.cycles = s.cycles := (busRead_cpuSame a s).cycles
@[simp] theorem busRead_cfg (a : Addr) (s : State) : (busRead a s).2.cfg = s.cfg := (busRead_cpuSame a s).cfg
@[simp] theorem busRead_input (a : Addr) (s : State) : (busRead a s).2.input = s.input := (busRead_cpuSame a s).input

@[simp] theorem busRead16_a (a : Addr) (s : State) : (busRead16 a s).2.a = s.a := (busRead16_cpuSame a s).a
@[simp] theorem busRead16_x (a : Addr) (s : State) : (busRead16 a s).2.x = s.x := (busRead16_cpuSame a s).x
@[simp] theorem busRead16_y (a : Addr) (s : State) : (busRead16 a s).2.y = s.y := (busRead16_cpuSame a s).y
@[simp] theorem busRead16_sp (a : Addr) (s : State) : (busRead16 a s).2.sp = s.sp := (busRead16_cpuSame a s).sp
@[simp] theorem busRead16_pc (a : Addr) (s : State) : (busRead16 a s).2.pc = s.pc := (busRead16_cpuSame a s).pc
@[simp] theorem busRead16_p (a : Addr) (s : State) : (busRead16 a s).2.p = s.p := (busRead16_cpuSame a s).p
@[simp] theorem busRead16_halted (a : Addr) (s : State) : (busRead16 a s).2.halted = s.halted := (busRead16_cpuSame a s).halted
@[simp] theorem busRead16_cycles (a : Addr) (s : State) : (busRead16 a s).2.cycles = s.cycles := (busRead16_cpuSame a s).cycles
@[simp] theorem busRead16_cfg (a : Addr) (s : State) : (busRead16 a s).2.cfg = s.cfg := (busRead16_cpuSame a s).cfg
@[simp] theorem busRead16_input (a : Addr) (s : State) : (busRead16 a s).2.input = s.input := (busRead16_cpuSame a s).input

@[simp] theorem effAddr_a (m : DataMode) (s : State) : (effAddr m s).2.a = s.a := (effAddr_cpuSame m s).a
@[simp] theorem effAddr_x (m : DataMode) (s : State) : (effAddr m s).2.x = s.x := (effAddr_cpuSame m s).x
@[simp] theorem effAddr_y (m : DataMode) (s : State) : (effAddr m s).2.y = s.y := (effAddr_cpuSame m s).y
@[simp] theorem effAddr_sp (m : DataMode) (s : State) : (effAddr m s).2.sp = s.sp := (effAddr_cpuSame m s).sp
@[simp] theorem effAddr_pc (m : DataMode) (s : State) : (effAddr m s).2.pc = s.pc := (effAddr_cpuSame m s).pc
@[simp] theorem effAddr_p (m : DataMode) (s : State) : (effAddr m s).2.p = s.p := (effAddr_cpuSame m s).p
@[simp] theorem effAddr_halted (m : DataMode) (s : State) : (effAddr m s).2.halted = s.halted := (effAddr_cpuSame m s).halted
@[simp] theorem effAddr_cycles (m : DataMode) (s : State) : (effAddr m s).2.cycles = s.cycles := (effAddr_cpuSame m s).cycles
@[simp] theorem effAddr_cfg (m : DataMode) (s : State) : (effAddr m s).2.cfg = s.cfg := (effAddr_cpuSame m s).cfg
@[simp] theorem effAddr_input (m : DataMode) (s : State) : (effAddr m s).2.input = s.input := (effAddr_cpuSame m s).input

@[simp] theorem busWrite_a (a : Addr) (v : Byte) (s : State) : (busWrite a v s).a = s.a := (busWrite_cpuSame a v s).a
@[simp] theorem busWrite_x (a : Addr) (v : Byte) (s : State) : (busWrite a v s).x = s.x := (busWrite_cpuSame a v s).x
@[simp] theorem busWrite_y (a : Addr) (v : Byte) (s : State) : (busWrite a v s).y = s.y := (busWrite_cpuSame a v s).y
@[simp] theorem busWrite_sp (a : Addr) (v : Byte) (s : State) : (busWrite a v s).sp = s.sp := (busWrite_cpuSame a v s).sp
@[simp] theorem busWrite_pc (a : Addr) (v : Byte) (s : State) : (busWrite a v s).pc = s.pc := (busWrite_cpuSame a v s).pc
@[simp] theorem busWrite_p (a : Addr) (v : Byte) (s : State) : (busWrite a v s).p = s.p := (busWrite_cpuSame a v s).p
@[simp] theorem busWrite_halted (a : Addr) (v : Byte) (s : State) : (busWrite a v s).halted = s.halted := (busWrite_cpuSame a v s).halted
@[simp] theorem busWrite_cycles (a : Addr) (v : Byte) (s : State) : (busWrite a v s).cycles = s.cycles := (busWrite_cpuSame a v s).cycles
@[simp] theorem busWrite_cfg (a : Addr) (v : Byte) (s : State) : (busWrite a v s).cfg = s.cfg := (busWrite_cpuSame a v s).cfg
@[simp] theorem busWrite_input (a : Addr) (v : Byte) (s : State) : (busWrite a v s).input = s.input := (busWrite_cpuSame a v s).input

/-! ### A stop that is already there stays -/

theorem invalidAccess_stopped {r : Stop} (k : InvalidKind) (a : Addr) (s : State) (h : s.stop = some r) :
    (invalidAccess k a s).stop = some r := by
  unfold invalidAccess
  split_ifs
  · simp only [h]
  · exact h

theorem busRead_stopped {r : Stop} (a : Addr) (s : State) (h : s.stop = some r) : (busRead a s).2.stop = some r := by
  rcases busRead_effect a s with e | e | e | e | e | e | e <;> rw [e]
  · exact h
  · exact h
  · unfold ppuReadData; dsimp only; split_ifs <;> exact h
  · exact h
  · exact h
  · exact h
  · exact invalidAccess_stopped _ _ _ h

theorem busReadRun_stopped {r : Stop} : ∀ (n : Nat) (a : Addr) (s : State), s.stop = some r →
    (busReadRun n a s).2.stop = some r
  | 0, _, _, h => h
  | n + 1, a, s, h => busReadRun_stopped n (a + 1) (busRead a s).2 (busRead_stopped a s h)

theorem oamDma_stopped {r : Stop} (v : Byte) (s : State) (h : s.stop = some r) : (oamDma v s).stop = some r :=
  oamDma_split v s (fun t => t.stop = some r) (fun _ _ k => k) (fun n a => busReadRun_stopped n a s h)

theorem busWrite_stopped {r : Stop} (a : Addr) (v : Byte) (s : State) (h : s.stop = some r) :
    (busWrite a v s).stop = some r := by
  rcases busWrite_effect a v s with e | e | e | e | e | e | e | e | e | e | e | e | e | e <;> rw [e] <;>
    first
    | with_reducible exact invalidAccess_stopped _ _ _ h
    | with_reducible exact (ppuWriteData_stop _ _).trans h
    | with_reducible exact oamDma_stopped _ _ h
    | exact h

end Sys2Proof.Machine
end

