-- ==== Sys2Proof/Laws/FlagShapes.lean ====
section
/-! SUPPORT. The flag shapes of Safety.lean, from the value that a flag computation leaves in P: one lemma for each. -/
namespace Sys2Proof.Machine

theorem decide_eq_zero (v : Byte) : decide (v = 0) = decide (v.toNat = 0) := by
  rw [decide_eq_decide]
  exact ⟨fun h => by rw [h]; rfl, fun h => BitVec.eq_of_toNat_eq h⟩

theorem bit7_eq (v : Byte) : bitOf v 7 = decide (128 ≤ v.toNat) := by
  have h := v.isLt
  unfold bitOf
  rw [BitVec.getLsbD, Nat.testBit_eq_decide_div_mod_eq, decide_eq_decide]
  omega

theorem bit0_eq (v : Byte) : bitOf v 0 = decide (v.toNat % 2 = 1) := by
  unfold bitOf
  rw [BitVec.getLsbD, Nat.testBit_eq_decide_div_mod_eq, decide_eq_decide]
  omega

theorem hasZN_of {v p : Byte} {t : State} (h : t.p = znOf v p) : t.HasZN v := by
  constructor
  · unfold State.flagZ; rw [h, bitOf_znOf, ← decide_eq_zero]; rfl
  · unfold State.flagN; rw [h, bitOf_znOf, ← bit7_eq]; rfl

theorem znOf_keeps (v p : Byte) {k : Nat} (h1 : k ≠ bitZ) (h7 : k ≠ bitN) : (znOf v p).getLsbD k = p.getLsbD k := by
  have := bitOf_znOf v p k
  unfold bitOf at this
  rw [this, if_neg (show k ≠ 7 from h7), if_neg (show k ≠ 1 from h1)]

theorem putBit_keeps (p : Byte) {i k : Nat} (on : Bool) (hi : i < 8) (h : k ≠ i) :
    (putBit p i on).getLsbD k = p.getLsbD k := by
  have := bitOf_putBit p i k on hi
  unfold bitOf at this
  rw [this, if_neg (Ne.symm h)]

theorem znOnly_of {v : Byte} {s t : State} (h : t.p = znOf v s.p) : s.ZNOnly v t := by
  refine ⟨hasZN_of h, fun k hk => ?_⟩
  simp only [List.mem_cons, List.not_mem_nil, or_false, not_or] at hk
  rw [h, znOf_keeps _ _ hk.1 hk.2]

theorem shifted_of {c : Bool} {v : Byte} {s t : State} (h : t.p = znOf v (putBit s.p bitC c)) : s.Shifted c v t := by
  refine ⟨?_, hasZN_of h, fun k hk => ?_⟩
  · unfold State.flagC; rw [h, bitOf_znOf, bitOf_putBit _ _ _ _ (by decide)]; rfl
  · simp only [List.mem_cons, List.not_mem_nil, or_false, not_or] at hk
    rw [h, znOf_keeps _ _ hk.2.1 hk.2.2, putBit_keeps _ _ (by decide) hk.1]

theorem compared_of {r m : Byte} {s t : State}
    (h : t.p = znOf (r - m) (putBit s.p bitC (decide (m.toNat ≤ r.toNat)))) : s.Compared r m t := by
  have hs := shifted_of h
  refine ⟨hs.1, ?_, ?_, hs.2.2⟩
  · rw [hs.2.1.1, decide_eq_decide]
    constructor
    · intro e; exact (sub_eq_zero.mp (BitVec.eq_of_toNat_eq e)).symm
    · intro e; subst e; simp
  · rw [hs.2.1.2, BitVec.toNat_sub, decide_eq_decide]
    have := m.isLt; have := r.isLt
    omega

theorem addOverflow_eq (a m : Byte) (c : Bool) : addOverflow a m c =
    decide (a.toInt + m.toInt + c.toNat < -128 ∨ 127 < a.toInt + m.toInt + c.toNat) := by
  have ha := a.isLt; have hm := m.isLt
  have hr : (addResult a m c).toNat = (a.toNat + m.toNat + c.toNat) % 256 := addResult_toNat a m c
  have h1 : addOverflow a m c = ((bitOf m 7 ^^ bitOf (addResult a m c) 7) && (bitOf (addResult a m c) 7 ^^ bitOf a 7)) := by
    have hne : ∀ x : Byte, decide (x &&& 0x80#8 ≠ 0#8) = bitOf x 7 := by decide
    unfold addOverflow
    rw [hne]
    simp [bitOf]
  rw [h1, bit7_eq, bit7_eq, bit7_eq, hr, BitVec.toInt_eq_toNat_cond, BitVec.toInt_eq_toNat_cond]
  clear hr h1
  have hc : c.toNat ≤ 1 := by cases c <;> simp
  generalize c.toNat = n at *
  by_cases h3 : 128 ≤ a.toNat <;> by_cases h4 : 128 ≤ m.toNat <;>
    by_cases h5 : 128 ≤ (a.toNat + m.toNat + n) % 256 <;>
    simp only [h3, h4, h5, decide_true, decide_false, Bool.xor_true, Bool.xor_false, Bool.not_true, Bool.not_false,
      Bool.and_true, Bool.and_false] <;>
    symm <;> first | (rw [decide_eq_false_iff_not]; split_ifs <;> omega) | (rw [decide_eq_true_eq]; split_ifs <;> omega)

theorem added_of {a m : Byte} {c : Bool} {s t : State} (ha : t.a = addResult a m c)
    (h : t.p = znOf (addResult a m c) (putBit (putBit s.p bitC (addCarry a m c)) bitV (addOverflow a m c))) :
    s.Added a m c t := by
  refine ⟨by rw [ha, addResult_toNat]; rfl, ?_, ?_, by rw [ha]; exact hasZN_of h, fun k hk => ?_⟩
  · unfold State.flagC
    rw [h, bitOf_znOf, bitOf_putBit _ _ _ _ (by decide), bitOf_putBit _ _ _ _ (by decide)]
    simp only [bitC, bitV]
    unfold addCarry addSum
    simp
    omega
  · unfold State.flagV
    rw [h, bitOf_znOf, bitOf_putBit _ _ _ _ (by decide), ← addOverflow_eq]
    rfl
  · simp only [List.mem_cons, List.not_mem_nil, or_false, not_or] at hk
    rw [h, znOf_keeps _ _ hk.2.1 hk.2.2.2, putBit_keeps _ _ (by decide) hk.2.2.1, putBit_keeps _ _ (by decide) hk.1]

/-- Adding the complement is subtracting (42_arith_logic.md R212). -/
theorem subtracted_of {a m : Byte} {c : Bool} {s t : State} (h : s.Added a (~~~m) c t) : s.Subtracted a m c t := by
  obtain ⟨h1, h2, h3, h4, h5⟩ := h
  have hm := m.isLt; have ha := a.isLt
  have hn : (~~~m).toNat = 255 - m.toNat := by simp
  have hi : (~~~m).toInt = -1 - m.toInt := by
    rw [BitVec.toInt_eq_toNat_cond, BitVec.toInt_eq_toNat_cond, hn]
    split_ifs <;> omega
  refine ⟨?_, ?_, ?_, h4, h5⟩
  · rw [h1, hn]; congr 1; omega
  · rw [h2, hn, decide_eq_decide]; cases c <;> simp <;> omega
  · rw [h3, hi, decide_eq_decide]; cases c <;> simp <;> omega

theorem aslVal_eq (c : Bool) (v : Byte) : aslVal c v = (doubled c v, decide (128 ≤ v.toNat)) := by
  refine Prod.ext (BitVec.eq_of_toNat_eq ?_) (bit7_eq v)
  simp [aslVal, doubled, Nat.shiftLeft_eq, Nat.mul_comm]

theorem lsrVal_eq (c : Bool) (v : Byte) : lsrVal c v = (halved c v, decide (v.toNat % 2 = 1)) := by
  refine Prod.ext (BitVec.eq_of_toNat_eq ?_) (bit0_eq v)
  have := v.isLt
  simp [lsrVal, halved, Nat.shiftRight_eq_div_pow]
  omega

theorem rolVal_eq (c : Bool) (v : Byte) : rolVal c v = (rotatedUp c v, decide (128 ≤ v.toNat)) := by
  refine Prod.ext (?_) (bit7_eq v)
  revert c v; decide

theorem rorVal_eq (c : Bool) (v : Byte) : rorVal c v = (rotatedDown c v, decide (v.toNat % 2 = 1)) := by
  refine Prod.ext (?_) (bit0_eq v)
  revert c v; decide

/-- What an earlier setting of Z and N left is gone after a later one. -/
theorem znOf_znOf (v w p : Byte) : znOf v (znOf w p) = znOf v p := by
  refine byte_ext _ _ fun i hi => ?_
  rw [bitOf_znOf, bitOf_znOf, bitOf_znOf]
  split_ifs <;> rfl

/-- A flag written between two settings of Z and N: the first setting is gone. -/
theorem znOf_putBit_znOf (v w p : Byte) (i : Nat) (on : Bool) (h : i < 8) :
    znOf v (putBit (znOf w p) i on) = znOf v (putBit p i on) := by
  refine byte_ext _ _ fun j hj => ?_
  simp only [bitOf_znOf, bitOf_putBit _ _ _ _ h]
  split_ifs <;> rfl

/-- A flag written twice holds the later value. -/
theorem putBit_putBit (p : Byte) (i : Nat) (on on' : Bool) (h : i < 8) : putBit (putBit p i on) i on' = putBit p i on' := by
  refine byte_ext _ _ fun j hj => ?_
  simp only [bitOf_putBit _ _ _ _ h]
  split_ifs <;> rfl

/-- Writing a flag other than Z and N commutes with setting them. -/
theorem putBit_znOf (v p : Byte) (i : Nat) (on : Bool) (h : i < 8) (h1 : i ≠ 1) (h7 : i ≠ 7) :
    putBit (znOf v p) i on = znOf v (putBit p i on) := by
  refine byte_ext _ _ fun j hj => ?_
  simp only [bitOf_znOf, bitOf_putBit _ _ _ _ h]
  split_ifs <;> first | rfl | omega

theorem flagC_of_p {u s : State} (h : u.p = s.p) : u.flagC = s.flagC := by
  unfold State.flagC
  rw [h]

theorem inc_eq (v : Byte) : v + 1 = BitVec.ofNat 8 (v.toNat + 1) := BitVec.eq_of_toNat_eq (by simp)

theorem dec_eq (v : Byte) : v - 1 = BitVec.ofNat 8 (v.toNat + 255) :=
  BitVec.eq_of_toNat_eq (by simp [BitVec.toNat_sub]; omega)

theorem addCore_p (m : Byte) (s : State) : (addCore m s).p = znOf (addResult s.a m s.flagC)
    (putBit (putBit s.p bitC (addCarry s.a m s.flagC)) bitV (addOverflow s.a m s.flagC)) := rfl

end Sys2Proof.Machine
end

