-- ==== Sys2Proof/Laws/Memory.lean ====
section
/-! SUPPORT. The laws of byte arrays: a write keeps the canonical form and the bounds, a read after a write gives the byte
written there and the old byte elsewhere, and two arrays in canonical form that read alike are equal. -/
namespace Sys2Proof

theorem Memory.wfFrom_mono {lo lo' : Nat} (h : lo' ≤ lo) : ∀ {m : Memory}, Memory.wfFrom lo m = true → Memory.wfFrom lo' m = true
  | [], _ => rfl
  | (a, v) :: m, hw => by
    simp only [Memory.wfFrom, Bool.and_eq_true, decide_eq_true_eq] at hw ⊢
    exact ⟨⟨h.trans hw.1.1, hw.1.2⟩, hw.2⟩

/-- Below the first index everything reads blank. -/
theorem Memory.read_of_lt : ∀ {m : Memory} {lo a : Nat}, Memory.wfFrom lo m = true → a < lo → m.read a = Memory.blank
  | [], _, _, _, _ => rfl
  | (b, v) :: m, lo, a, hw, ha => by
    simp only [Memory.wfFrom, Bool.and_eq_true, decide_eq_true_eq] at hw
    have h1 : a ≠ b := by omega
    have h2 : a < b := by omega
    simp [Memory.read, h1, h2]

theorem Memory.wfFrom_write : ∀ {m : Memory} {lo a : Nat} (v : Byte), Memory.wfFrom lo m = true → lo ≤ a →
    Memory.wfFrom lo (m.write a v) = true
  | [], lo, a, v, _, ha => by
    by_cases hv : v = Memory.blank <;> simp [Memory.write, Memory.wfFrom, hv, ha]
  | (b, w) :: m, lo, a, v, hw, ha => by
    have hw' := hw
    simp only [Memory.wfFrom, Bool.and_eq_true, decide_eq_true_eq] at hw
    obtain ⟨⟨hlo, hb⟩, ht⟩ := hw
    simp only [Memory.write]
    split_ifs with h1 h2 h3 h4
    · exact hw'
    · simp only [Memory.wfFrom, Bool.and_eq_true, decide_eq_true_eq]
      exact ⟨⟨ha, h2⟩, ⟨by omega, hb⟩, ht⟩
    · subst h3; exact Memory.wfFrom_mono (by omega) ht
    · subst h3
      simp only [Memory.wfFrom, Bool.and_eq_true, decide_eq_true_eq]
      exact ⟨⟨ha, h4⟩, ht⟩
    · simp only [Memory.wfFrom, Bool.and_eq_true, decide_eq_true_eq]
      exact ⟨⟨hlo, hb⟩, Memory.wfFrom_write v ht (by omega)⟩

/-- A write keeps the canonical form. -/
theorem Memory.wf_write (m : Memory) (a : Nat) (v : Byte) (h : m.wf = true) : (m.write a v).wf = true :=
  Memory.wfFrom_write v h (Nat.zero_le a)

/-- A read after a write: the byte written at that index, the old byte at every other. -/
theorem Memory.read_writeFrom : ∀ {m : Memory} {lo : Nat} (a b : Nat) (v : Byte), Memory.wfFrom lo m = true →
    (m.write a v).read b = if b = a then v else m.read b
  | [], lo, a, b, v, _ => by
    by_cases hv : v = Memory.blank
    · by_cases hb : b = a <;> simp [Memory.write, Memory.read, hv, hb]
    · by_cases hb : b = a
      · simp [Memory.write, Memory.read, hv, hb]
      · by_cases hl : b < a <;> simp [Memory.write, Memory.read, hv, hb, hl]
  | (c, w) :: m, lo, a, b, v, hw => by
    simp only [Memory.wfFrom, Bool.and_eq_true, decide_eq_true_eq] at hw
    obtain ⟨⟨_, _⟩, ht⟩ := hw
    have ih := Memory.read_writeFrom a b v ht
    have hlow : ∀ k, k < c + 1 → Memory.read m k = Memory.blank := fun k hk => Memory.read_of_lt ht hk
    rcases lt_trichotomy a c with hac | hac | hac
    · have hne : a ≠ c := by omega
      by_cases hv : v = Memory.blank
      · by_cases hb : b = a
        · subst hb; simp [Memory.write, Memory.read, hac, hv, hne]
        · simp [Memory.write, hac, hv, hb]
      · by_cases hb : b = a
        · subst hb; simp [Memory.write, Memory.read, hac, hv]
        · by_cases hl : b < a
          · have h1 : b ≠ c := by omega
            have h2 : b < c := by omega
            simp [Memory.write, Memory.read, hac, hv, hb, hl, h1, h2]
          · simp [Memory.write, Memory.read, hac, hv, hb, hl]
    · subst hac
      by_cases hv : v = Memory.blank
      · by_cases hb : b = a
        · subst hb; simp [Memory.write, hv, hlow b (by omega)]
        · by_cases hl : b < a
          · simp [Memory.write, Memory.read, hv, hb, hl, hlow b (by omega)]
          · simp [Memory.write, Memory.read, hv, hb, hl]
      · by_cases hb : b = a
        · subst hb; simp [Memory.write, Memory.read, hv]
        · simp [Memory.write, Memory.read, hv, hb]
    · have h1 : ¬ a < c := by omega
      have h2 : a ≠ c := by omega
      by_cases hb : b = c
      · have h3 : b ≠ a := by omega
        simp [Memory.write, Memory.read, h1, h2, hb, Ne.symm h2]
      · by_cases hl : b < c
        · have h3 : b ≠ a := by omega
          simp [Memory.write, Memory.read, h1, h2, hb, hl, h3]
        · simp [Memory.write, Memory.read, h1, h2, hb, hl, ih]

theorem Memory.read_write (m : Memory) (a b : Nat) (v : Byte) (h : m.wf = true) :
    (m.write a v).read b = if b = a then v else m.read b :=
  Memory.read_writeFrom a b v h

/-- A write inside the bounds keeps them. -/
theorem Memory.below_write {n a : Nat} (v : Byte) (ha : a < n) :
    ∀ {m : Memory}, m.below n = true → (m.write a v).below n = true
  | [], _ => by by_cases hv : v = Memory.blank <;> simp [Memory.write, Memory.below, hv, ha]
  | (b, w) :: m, h => by
    simp only [Memory.below, List.all_cons, Bool.and_eq_true, decide_eq_true_eq] at h
    have ht := Memory.below_write v ha h.2
    simp only [Memory.below] at ht
    simp only [Memory.write]
    split_ifs <;> simp only [Memory.below, List.all_cons, Bool.and_eq_true, decide_eq_true_eq]
    exacts [h, ⟨ha, h⟩, h.2, ⟨ha, h.2⟩, ⟨h.1, ht⟩]

/-- Two arrays in canonical form that read alike are the same list. -/
theorem Memory.ext_wfFrom : ∀ {m m' : Memory} {lo : Nat}, Memory.wfFrom lo m = true → Memory.wfFrom lo m' = true →
    (∀ a, Memory.read m a = Memory.read m' a) → m = m'
  | [], [], _, _, _, _ => rfl
  | [], (b, w) :: m', lo, _, h', he => by
    simp only [Memory.wfFrom, Bool.and_eq_true, decide_eq_true_eq] at h'
    have := he b
    simp [Memory.read] at this
    exact absurd this.symm h'.1.2
  | (b, w) :: m, [], lo, h, _, he => by
    simp only [Memory.wfFrom, Bool.and_eq_true, decide_eq_true_eq] at h
    have := he b
    simp [Memory.read] at this
    exact absurd this h.1.2
  | (b, w) :: m, (c, u) :: m', lo, h, h', he => by
    simp only [Memory.wfFrom, Bool.and_eq_true, decide_eq_true_eq] at h h'
    obtain ⟨⟨hl, hw⟩, ht⟩ := h
    obtain ⟨⟨hl', hu⟩, ht'⟩ := h'
    rcases lt_trichotomy b c with hbc | hbc | hbc
    · have := he b
      simp [Memory.read, hbc, Nat.ne_of_lt hbc] at this
      exact absurd this hw
    · subst hbc
      have hwu : w = u := by simpa [Memory.read] using he b
      subst hwu
      congr 1
      refine Memory.ext_wfFrom ht ht' fun a => ?_
      rcases lt_trichotomy a b with hab | hab | hab
      · rw [Memory.read_of_lt ht (by omega), Memory.read_of_lt ht' (by omega)]
      · rw [Memory.read_of_lt ht (by omega), Memory.read_of_lt ht' (by omega)]
      · have := he a
        simpa [Memory.read, Nat.ne_of_gt hab, Nat.not_lt.mpr hab.le] using this
    · have := he c
      simp [Memory.read, hbc, Nat.ne_of_lt hbc] at this
      exact absurd this.symm hu

theorem Memory.ext {m m' : Memory} (h : m.wf = true) (h' : m'.wf = true) (he : ∀ a, m.read a = m'.read a) : m = m' :=
  Memory.ext_wfFrom h h' he

theorem Memory.wfFrom_ofBytesFrom : ∀ (bytes : List Byte) (i : Nat), Memory.wfFrom i (Memory.ofBytesFrom i bytes) = true
  | [], _ => rfl
  | v :: vs, i => by
    have ht := Memory.wfFrom_ofBytesFrom vs (i + 1)
    by_cases hv : v = Memory.blank
    · simpa [Memory.ofBytesFrom, hv] using Memory.wfFrom_mono (Nat.le_succ i) ht
    · simp [Memory.ofBytesFrom, hv, Memory.wfFrom, ht]

theorem Memory.read_ofBytesFrom : ∀ (bytes : List Byte) (i k : Nat),
    (Memory.ofBytesFrom i bytes).read (i + k) = bytes.getD k Memory.blank
  | [], _, _ => rfl
  | v :: vs, i, 0 => by
    by_cases hv : v = Memory.blank
    · simpa [Memory.ofBytesFrom, hv] using Memory.read_of_lt (Memory.wfFrom_ofBytesFrom vs (i + 1)) (Nat.lt_succ_self i)
    · simp [Memory.ofBytesFrom, hv, Memory.read]
  | v :: vs, i, k + 1 => by
    have ih := Memory.read_ofBytesFrom vs (i + 1) k
    have e : i + (k + 1) = i + 1 + k := by omega
    by_cases hv : v = Memory.blank
    · simpa [Memory.ofBytesFrom, hv, e] using ih
    · have h1 : i + 1 + k ≠ i := by omega
      have h2 : ¬ i + 1 + k < i := by omega
      simpa [Memory.ofBytesFrom, hv, e, Memory.read, h1, h2] using ih

/-- The array of a list of bytes holds them, and the blank byte beyond them. -/
theorem Memory.read_ofBytes (bytes : List Byte) (k : Nat) :
    (Memory.ofBytes bytes).read k = bytes.getD k Memory.blank := by
  simpa [Memory.ofBytes] using Memory.read_ofBytesFrom bytes 0 k

end Sys2Proof
end

