-- ==== Sys2Proof/Laws/Moves.lean ====
section
/-! SUPPORT. Everything an instruction can do to the state, said once: Bus reads, Bus writes, changes of A, X, Y, SP and PC, and
changes of P that keep BREAK and BREAK2 or leave them as a pull does. A claim about every instruction is proved for these
moves. -/
namespace Sys2Proof.Machine

/-- The moves that an instruction is made of. -/
inductive Moves : State → State → Prop where
  | refl (s : State) : Moves s s
  | trans {s t u : State} : Moves s t → Moves t u → Moves s u
  | read (a : Addr) (s : State) : Moves s (busRead a s).2
  | write (a : Addr) (v : Byte) (s : State) : Moves s (busWrite a v s)
  | regs (s : State) (a x y sp : Byte) (pc : Addr) : Moves s { s with a := a, x := x, y := y, sp := sp, pc := pc }
  | flags (s : State) (p : Byte) : (bitOf p bitB = bitOf s.p bitB ∧ bitOf p bitU = bitOf s.p bitU) ∨
      (bitOf p bitB = false ∧ bitOf p bitU = true) → Moves s (s.setP p)

theorem moves_setA (v : Byte) (s : State) : Moves s (s.setA v) := Moves.regs s v s.x s.y s.sp s.pc
theorem moves_setX (v : Byte) (s : State) : Moves s (s.setX v) := Moves.regs s s.a v s.y s.sp s.pc
theorem moves_setY (v : Byte) (s : State) : Moves s (s.setY v) := Moves.regs s s.a s.x v s.sp s.pc
theorem moves_setSp (v : Byte) (s : State) : Moves s (s.setSp v) := Moves.regs s s.a s.x s.y v s.pc
theorem moves_setPc (v : Addr) (s : State) : Moves s (s.setPc v) := Moves.regs s s.a s.x s.y s.sp v

theorem moves_setZN (v : Byte) (s : State) : Moves s (s.setZN v) := by
  refine Moves.flags s _ (.inl ⟨?_, ?_⟩) <;> rw [bitOf_znOf] <;> rfl

theorem moves_setFlag (i : Nat) (on : Bool) (s : State) (hi : i < 8) (h4 : i ≠ bitB) (h5 : i ≠ bitU) :
    Moves s (s.setFlag i on) :=
  Moves.flags s _ (.inl ⟨by rw [bitOf_putBit _ _ _ _ hi, if_neg h4], by rw [bitOf_putBit _ _ _ _ hi, if_neg h5]⟩)

theorem moves_pulledStatus (v : Byte) (s : State) : Moves s (s.setP (pulledStatus v)) := by
  refine Moves.flags s _ (.inr ⟨?_, ?_⟩)
  · unfold pulledStatus; rw [bitOf_putBit _ _ _ _ (by decide), bitOf_putBit _ _ _ _ (by decide)]; rfl
  · unfold pulledStatus; rw [bitOf_putBit _ _ _ _ (by decide)]; rfl

theorem moves_read16 (a : Addr) (s : State) : Moves s (busRead16 a s).2 :=
  (Moves.read a s).trans (Moves.read (a + 1) (busRead a s).2)

theorem moves_zeroPagePointer (p : Byte) (s : State) : Moves s (zeroPagePointer p s).2 :=
  (Moves.read _ s).trans (Moves.read _ (busRead (zext16 p) s).2)

theorem moves_effAddr (m : DataMode) (s : State) : Moves s (effAddr m s).2 := by
  cases m
  case imm => exact Moves.refl s
  case zp | zpx | zpy => exact Moves.read s.pc s
  case abs | abx | aby => exact moves_read16 s.pc s
  case izx => exact (Moves.read s.pc s).trans (moves_zeroPagePointer _ _)
  case izy => exact (Moves.read s.pc s).trans (moves_zeroPagePointer _ _)

theorem moves_readOperand (m : DataMode) {use : Byte → State → State} (h : ∀ v t, Moves t (use v t)) (s : State) :
    Moves s (readOperand m use s) :=
  ((moves_effAddr m s).trans (Moves.read (effAddr m s).1 (effAddr m s).2)).trans (h _ _)

theorem moves_storeOperand (m : DataMode) (val : Addr → State → Byte) (s : State) :
    Moves s (storeOperand m val s) := (moves_effAddr m s).trans (Moves.write _ _ _)

theorem moves_modifyOperand (m : DataMode) (result : Byte → State → Byte) {after : Byte → State → State}
    (h : ∀ v t, Moves t (after v t)) (s : State) : Moves s (modifyOperand m result after s) :=
  (((moves_effAddr m s).trans (Moves.read _ _)).trans (Moves.write _ _ _)).trans (h _ _)

theorem moves_push (v : Byte) (s : State) : Moves s (push v s) := (Moves.write _ v s).trans (moves_setSp _ _)

theorem moves_pull (s : State) : Moves s (pull s).2 := (moves_setSp (s.sp + 1) s).trans (Moves.read _ _)

theorem moves_push16 (w : Addr) (s : State) : Moves s (push16 w s) := (moves_push _ s).trans (moves_push _ _)

theorem moves_pull16 (s : State) : Moves s (pull16 s).2 := (moves_pull s).trans (moves_pull _)

theorem moves_addCore (m : Byte) (s : State) : Moves s (addCore m s) :=
  (((moves_setFlag bitC _ s (by decide) (by decide) (by decide)).trans
    (moves_setFlag bitV _ _ (by decide) (by decide) (by decide))).trans (moves_setA _ _)).trans (moves_setZN _ _)

theorem moves_cmpCore (r m : Byte) (s : State) : Moves s (cmpCore r m s) :=
  (moves_setFlag bitC _ s (by decide) (by decide) (by decide)).trans (moves_setZN _ _)

theorem moves_andCore (m : Byte) (s : State) : Moves s (andCore m s) := (moves_setA _ s).trans (moves_setZN _ _)
theorem moves_oraCore (m : Byte) (s : State) : Moves s (oraCore m s) := (moves_setA _ s).trans (moves_setZN _ _)
theorem moves_eorCore (m : Byte) (s : State) : Moves s (eorCore m s) := (moves_setA _ s).trans (moves_setZN _ _)

theorem moves_bitCore (m : Byte) (s : State) : Moves s (bitCore m s) :=
  ((moves_setFlag bitZ _ s (by decide) (by decide) (by decide)).trans
    (moves_setFlag bitN _ _ (by decide) (by decide) (by decide))).trans
    (moves_setFlag bitV _ _ (by decide) (by decide) (by decide))

theorem moves_shiftFlags (r : Byte × Bool) (s : State) : Moves s (shiftFlags r s) :=
  (moves_setFlag bitC _ s (by decide) (by decide) (by decide)).trans (moves_setZN _ _)

theorem moves_shiftAcc (f : Bool → Byte → Byte × Bool) (s : State) : Moves s (shiftAcc f s) :=
  (moves_setA _ s).trans (moves_shiftFlags _ _)

theorem moves_shiftMem (f : Bool → Byte → Byte × Bool) (m : DataMode) {after : Byte → State → State}
    (h : ∀ v t, Moves t (after v t)) (s : State) : Moves s (shiftMem f m after s) :=
  moves_modifyOperand m _ (fun _ t => (moves_shiftFlags _ t).trans (h _ _)) s

theorem moves_incMem (m : DataMode) {after : Byte → State → State} (h : ∀ v t, Moves t (after v t)) (s : State) :
    Moves s (incMem m after s) := moves_modifyOperand m _ (fun _ t => (moves_setZN _ t).trans (h _ _)) s

theorem moves_decMem (m : DataMode) {after : Byte → State → State} (h : ∀ v t, Moves t (after v t)) (s : State) :
    Moves s (decMem m after s) := moves_modifyOperand m _ (fun _ t => (moves_setZN _ t).trans (h _ _)) s

theorem moves_ldaRule (m : DataMode) (s : State) : Moves s (ldaRule m s) :=
  moves_readOperand m (fun v t => (moves_setA v t).trans (moves_setZN v _)) s

theorem moves_ldxRule (m : DataMode) (s : State) : Moves s (ldxRule m s) :=
  moves_readOperand m (fun v t => (moves_setX v t).trans (moves_setZN v _)) s

theorem moves_ldyRule (m : DataMode) (s : State) : Moves s (ldyRule m s) :=
  moves_readOperand m (fun v t => (moves_setY v t).trans (moves_setZN v _)) s

theorem moves_staRule (m : DataMode) (s : State) : Moves s (staRule m s) :=
  moves_storeOperand m _ s

theorem moves_stxRule (m : DataMode) (s : State) : Moves s (stxRule m s) :=
  moves_storeOperand m _ s

theorem moves_styRule (m : DataMode) (s : State) : Moves s (styRule m s) :=
  moves_storeOperand m _ s

theorem moves_saxRule (m : DataMode) (s : State) : Moves s (saxRule m s) :=
  moves_storeOperand m _ s

theorem moves_ahxRule (m : DataMode) (s : State) : Moves s (ahxRule m s) :=
  moves_storeOperand m _ s

theorem moves_shxRule (m : DataMode) (s : State) : Moves s (shxRule m s) :=
  moves_storeOperand m _ s

theorem moves_shyRule (m : DataMode) (s : State) : Moves s (shyRule m s) :=
  moves_storeOperand m _ s

theorem moves_taxRule (s : State) : Moves s (taxRule s) :=
  (moves_setX _ s).trans (moves_setZN _ _)

theorem moves_tayRule (s : State) : Moves s (tayRule s) :=
  (moves_setY _ s).trans (moves_setZN _ _)

theorem moves_tsxRule (s : State) : Moves s (tsxRule s) :=
  (moves_setX _ s).trans (moves_setZN _ _)

theorem moves_txaRule (s : State) : Moves s (txaRule s) :=
  (moves_setA _ s).trans (moves_setZN _ _)

theorem moves_tyaRule (s : State) : Moves s (tyaRule s) :=
  (moves_setA _ s).trans (moves_setZN _ _)

theorem moves_inxRule (s : State) : Moves s (inxRule s) :=
  (moves_setX _ s).trans (moves_setZN _ _)

theorem moves_inyRule (s : State) : Moves s (inyRule s) :=
  (moves_setY _ s).trans (moves_setZN _ _)

theorem moves_dexRule (s : State) : Moves s (dexRule s) :=
  (moves_setX _ s).trans (moves_setZN _ _)

theorem moves_deyRule (s : State) : Moves s (deyRule s) :=
  (moves_setY _ s).trans (moves_setZN _ _)

theorem moves_txsRule (s : State) : Moves s (txsRule s) :=
  moves_setSp _ s

theorem moves_adcRule (m : DataMode) (s : State) : Moves s (adcRule m s) :=
  moves_readOperand m moves_addCore s

theorem moves_sbcRule (m : DataMode) (s : State) : Moves s (sbcRule m s) :=
  moves_readOperand m (fun v t => moves_addCore (~~~v) t) s

theorem moves_andRule (m : DataMode) (s : State) : Moves s (andRule m s) :=
  moves_readOperand m moves_andCore s

theorem moves_oraRule (m : DataMode) (s : State) : Moves s (oraRule m s) :=
  moves_readOperand m moves_oraCore s

theorem moves_eorRule (m : DataMode) (s : State) : Moves s (eorRule m s) :=
  moves_readOperand m moves_eorCore s

theorem moves_bitRule (m : DataMode) (s : State) : Moves s (bitRule m s) :=
  moves_readOperand m moves_bitCore s

theorem moves_cmpRule (m : DataMode) (s : State) : Moves s (cmpRule m s) :=
  moves_readOperand m (fun v t => moves_cmpCore _ v t) s

theorem moves_cpxRule (m : DataMode) (s : State) : Moves s (cpxRule m s) :=
  moves_readOperand m (fun v t => moves_cmpCore _ v t) s

theorem moves_cpyRule (m : DataMode) (s : State) : Moves s (cpyRule m s) :=
  moves_readOperand m (fun v t => moves_cmpCore _ v t) s

theorem moves_incRule (m : DataMode) (s : State) : Moves s (incRule m s) :=
  moves_incMem m (fun _ t => Moves.refl t) s

theorem moves_decRule (m : DataMode) (s : State) : Moves s (decRule m s) :=
  moves_decMem m (fun _ t => Moves.refl t) s

theorem moves_jmpRule (s : State) : Moves s (jmpRule s) :=
  (moves_read16 s.pc s).trans (moves_setPc _ _)

theorem moves_jmpIndirectRule (s : State) : Moves s (jmpIndirectRule s) :=
  (((moves_read16 s.pc s).trans (Moves.read _ _)).trans (Moves.read _ _)).trans (moves_setPc _ _)

theorem moves_jsrRule (s : State) : Moves s (jsrRule s) :=
  ((moves_push16 _ s).trans (moves_read16 s.pc _)).trans (moves_setPc _ _)

theorem moves_rtsRule (s : State) : Moves s (rtsRule s) :=
  (moves_pull16 s).trans (moves_setPc _ _)

theorem moves_returnFromNmi (s : State) : Moves s (returnFromNmi s) :=
  (((moves_pull s).trans (moves_pulledStatus _ _)).trans (moves_pull16 _)).trans (moves_setPc _ _)

theorem moves_branchRule (i : Instr) (c : State → Bool) (s : State) : Moves s (branchRule i c s) := by
  unfold branchRule
  split_ifs
  · exact (Moves.read s.pc s).trans (moves_setPc _ _)
  · exact moves_setPc _ s

theorem moves_nopRule (s : State) : Moves s (nopRule s) :=
  Moves.refl s

theorem moves_nopReadRule (m : DataMode) (s : State) : Moves s (nopReadRule m s) :=
  moves_readOperand m (fun _ t => Moves.refl t) s

theorem moves_phaRule (s : State) : Moves s (phaRule s) :=
  moves_push _ s

theorem moves_phpRule (s : State) : Moves s (phpRule s) :=
  moves_push _ s

theorem moves_plaRule (s : State) : Moves s (plaRule s) :=
  ((moves_pull s).trans (moves_setA _ _)).trans (moves_setZN _ _)

theorem moves_plpRule (s : State) : Moves s (plpRule s) :=
  (moves_pull s).trans (moves_pulledStatus _ _)

theorem moves_clcRule (s : State) : Moves s (clcRule s) :=
  moves_setFlag bitC _ s (by decide) (by decide) (by decide)

theorem moves_secRule (s : State) : Moves s (secRule s) :=
  moves_setFlag bitC _ s (by decide) (by decide) (by decide)

theorem moves_cliRule (s : State) : Moves s (cliRule s) :=
  moves_setFlag bitI _ s (by decide) (by decide) (by decide)

theorem moves_seiRule (s : State) : Moves s (seiRule s) :=
  moves_setFlag bitI _ s (by decide) (by decide) (by decide)

theorem moves_cldRule (s : State) : Moves s (cldRule s) :=
  moves_setFlag bitD _ s (by decide) (by decide) (by decide)

theorem moves_sedRule (s : State) : Moves s (sedRule s) :=
  moves_setFlag bitD _ s (by decide) (by decide) (by decide)

theorem moves_clvRule (s : State) : Moves s (clvRule s) :=
  moves_setFlag bitV _ s (by decide) (by decide) (by decide)

theorem moves_sloRule (m : DataMode) (s : State) : Moves s (sloRule m s) :=
  moves_shiftMem _ m moves_oraCore s

theorem moves_rlaRule (m : DataMode) (s : State) : Moves s (rlaRule m s) :=
  moves_shiftMem _ m moves_andCore s

theorem moves_sreRule (m : DataMode) (s : State) : Moves s (sreRule m s) :=
  moves_shiftMem _ m moves_eorCore s

theorem moves_rraRule (m : DataMode) (s : State) : Moves s (rraRule m s) :=
  moves_shiftMem _ m moves_addCore s

theorem moves_dcpRule (m : DataMode) (s : State) : Moves s (dcpRule m s) :=
  moves_decMem m (fun v t => moves_cmpCore _ v t) s

theorem moves_isbRule (m : DataMode) (s : State) : Moves s (isbRule m s) :=
  moves_incMem m (fun v t => moves_addCore (~~~v) t) s

theorem moves_laxRule (m : DataMode) (s : State) : Moves s (laxRule m s) :=
  moves_readOperand m (fun v t => (((moves_setA v t).trans (moves_setZN v _)).trans (moves_setX v _)).trans (moves_setZN v _)) s

theorem moves_lxaRule (m : DataMode) (s : State) : Moves s (lxaRule m s) :=
  moves_readOperand m (fun v t => (((moves_setA v t).trans (moves_setZN v _)).trans (moves_setX v _)).trans (moves_setZN v _)) s

theorem moves_ancRule (m : DataMode) (s : State) : Moves s (ancRule m s) :=
  moves_readOperand m (fun v t => (moves_andCore v t).trans (moves_setFlag bitC _ _ (by decide) (by decide) (by decide))) s

theorem moves_alrRule (m : DataMode) (s : State) : Moves s (alrRule m s) :=
  moves_readOperand m (fun v t => (moves_andCore v t).trans (moves_shiftAcc _ _)) s

theorem moves_arrRule (m : DataMode) (s : State) : Moves s (arrRule m s) :=
  moves_readOperand m (fun v t => (((moves_andCore v t).trans (moves_setA _ _)).trans (moves_setZN _ _)).trans
    ((moves_setFlag bitC _ _ (by decide) (by decide) (by decide)).trans
      (moves_setFlag bitV _ _ (by decide) (by decide) (by decide)))) s

theorem moves_axsRule (m : DataMode) (s : State) : Moves s (axsRule m s) :=
  moves_readOperand m (fun v t => (moves_cmpCore _ v t).trans (moves_setX _ _)) s

theorem moves_xaaRule (m : DataMode) (s : State) : Moves s (xaaRule m s) :=
  moves_readOperand m (fun v t => ((moves_setA _ t).trans (moves_setZN _ _)).trans (moves_andCore v _)) s

theorem moves_lasRule (m : DataMode) (s : State) : Moves s (lasRule m s) :=
  moves_readOperand m (fun _ t => (((moves_setA _ t).trans (moves_setX _ _)).trans (moves_setSp _ _)).trans
    (moves_setZN _ _)) s

theorem moves_tasRule (m : DataMode) (s : State) : Moves s (tasRule m s) :=
  ((moves_effAddr m s).trans (moves_setSp _ _)).trans (Moves.write _ _ _)

/-- The end of an instruction that does not alter PC is a move too. -/
theorem plain_moves {i : Instr} {effect : State → State} {s : State} (h : Moves s (effect s)) :
    ∃ t, plain i effect s = finish t ∧ Moves s t := ⟨_, rfl, h.trans (moves_setPc _ _)⟩

theorem control_moves {effect : State → State} {s : State} (h : Moves s (effect s)) :
    ∃ t, control effect s = finish t ∧ Moves s t := ⟨_, rfl, h⟩

/-- Every instruction but BRK is a sequence of moves, then the check for a stop (40_cpu_step_addressing.md R160). -/
theorem exec_moves (i : Instr) (s : State) (h : i ≠ .brk) : ∃ t, exec i s = finish t ∧ Moves s t := by
  cases i
  case brk => exact absurd rfl h
  case oraIzx => exact plain_moves (moves_oraRule _ s)
  case nop02 => exact plain_moves (moves_nopRule s)
  case sloIzx => exact plain_moves (moves_sloRule _ s)
  case nop04 => exact plain_moves (moves_nopReadRule _ s)
  case oraZp => exact plain_moves (moves_oraRule _ s)
  case aslZp => exact plain_moves (moves_shiftMem _ _ (fun _ t => Moves.refl t) s)
  case sloZp => exact plain_moves (moves_sloRule _ s)
  case php => exact plain_moves (moves_phpRule s)
  case oraImm => exact plain_moves (moves_oraRule _ s)
  case aslAcc => exact plain_moves (moves_shiftAcc _ s)
  case anc0B => exact plain_moves (moves_ancRule _ s)
  case nop0C => exact plain_moves (moves_nopReadRule _ s)
  case oraAbs => exact plain_moves (moves_oraRule _ s)
  case aslAbs => exact plain_moves (moves_shiftMem _ _ (fun _ t => Moves.refl t) s)
  case sloAbs => exact plain_moves (moves_sloRule _ s)
  case bpl => exact control_moves (moves_branchRule _ _ s)
  case oraIzy => exact plain_moves (moves_oraRule _ s)
  case nop12 => exact plain_moves (moves_nopRule s)
  case sloIzy => exact plain_moves (moves_sloRule _ s)
  case nop14 => exact plain_moves (moves_nopReadRule _ s)
  case oraZpx => exact plain_moves (moves_oraRule _ s)
  case aslZpx => exact plain_moves (moves_shiftMem _ _ (fun _ t => Moves.refl t) s)
  case sloZpx => exact plain_moves (moves_sloRule _ s)
  case clc => exact plain_moves (moves_clcRule s)
  case oraAby => exact plain_moves (moves_oraRule _ s)
  case nop1A => exact plain_moves (moves_nopRule s)
  case sloAby => exact plain_moves (moves_sloRule _ s)
  case nop1C => exact plain_moves (moves_nopReadRule _ s)
  case oraAbx => exact plain_moves (moves_oraRule _ s)
  case aslAbx => exact plain_moves (moves_shiftMem _ _ (fun _ t => Moves.refl t) s)
  case sloAbx => exact plain_moves (moves_sloRule _ s)
  case jsr => exact control_moves (moves_jsrRule s)
  case andIzx => exact plain_moves (moves_andRule _ s)
  case nop22 => exact plain_moves (moves_nopRule s)
  case rlaIzx => exact plain_moves (moves_rlaRule _ s)
  case bitZp => exact plain_moves (moves_bitRule _ s)
  case andZp => exact plain_moves (moves_andRule _ s)
  case rolZp => exact plain_moves (moves_shiftMem _ _ (fun _ t => Moves.refl t) s)
  case rlaZp => exact plain_moves (moves_rlaRule _ s)
  case plp => exact plain_moves (moves_plpRule s)
  case andImm => exact plain_moves (moves_andRule _ s)
  case rolAcc => exact plain_moves (moves_shiftAcc _ s)
  case anc2B => exact plain_moves (moves_ancRule _ s)
  case bitAbs => exact plain_moves (moves_bitRule _ s)
  case andAbs => exact plain_moves (moves_andRule _ s)
  case rolAbs => exact plain_moves (moves_shiftMem _ _ (fun _ t => Moves.refl t) s)
  case rlaAbs => exact plain_moves (moves_rlaRule _ s)
  case bmi => exact control_moves (moves_branchRule _ _ s)
  case andIzy => exact plain_moves (moves_andRule _ s)
  case nop32 => exact plain_moves (moves_nopRule s)
  case rlaIzy => exact plain_moves (moves_rlaRule _ s)
  case nop34 => exact plain_moves (moves_nopReadRule _ s)
  case andZpx => exact plain_moves (moves_andRule _ s)
  case rolZpx => exact plain_moves (moves_shiftMem _ _ (fun _ t => Moves.refl t) s)
  case rlaZpx => exact plain_moves (moves_rlaRule _ s)
  case sec => exact plain_moves (moves_secRule s)
  case andAby => exact plain_moves (moves_andRule _ s)
  case nop3A => exact plain_moves (moves_nopRule s)
  case rlaAby => exact plain_moves (moves_rlaRule _ s)
  case nop3C => exact plain_moves (moves_nopReadRule _ s)
  case andAbx => exact plain_moves (moves_andRule _ s)
  case rolAbx => exact plain_moves (moves_shiftMem _ _ (fun _ t => Moves.refl t) s)
  case rlaAbx => exact plain_moves (moves_rlaRule _ s)
  case rti => exact control_moves (moves_returnFromNmi s)
  case eorIzx => exact plain_moves (moves_eorRule _ s)
  case nop42 => exact plain_moves (moves_nopRule s)
  case sreIzx => exact plain_moves (moves_sreRule _ s)
  case nop44 => exact plain_moves (moves_nopReadRule _ s)
  case eorZp => exact plain_moves (moves_eorRule _ s)
  case lsrZp => exact plain_moves (moves_shiftMem _ _ (fun _ t => Moves.refl t) s)
  case sreZp => exact plain_moves (moves_sreRule _ s)
  case pha => exact plain_moves (moves_phaRule s)
  case eorImm => exact plain_moves (moves_eorRule _ s)
  case lsrAcc => exact plain_moves (moves_shiftAcc _ s)
  case alrImm => exact plain_moves (moves_alrRule _ s)
  case jmpAbs => exact control_moves (moves_jmpRule s)
  case eorAbs => exact plain_moves (moves_eorRule _ s)
  case lsrAbs => exact plain_moves (moves_shiftMem _ _ (fun _ t => Moves.refl t) s)
  case sreAbs => exact plain_moves (moves_sreRule _ s)
  case bvc => exact control_moves (moves_branchRule _ _ s)
  case eorIzy => exact plain_moves (moves_eorRule _ s)
  case nop52 => exact plain_moves (moves_nopRule s)
  case sreIzy => exact plain_moves (moves_sreRule _ s)
  case nop54 => exact plain_moves (moves_nopReadRule _ s)
  case eorZpx => exact plain_moves (moves_eorRule _ s)
  case lsrZpx => exact plain_moves (moves_shiftMem _ _ (fun _ t => Moves.refl t) s)
  case sreZpx => exact plain_moves (moves_sreRule _ s)
  case cli => exact plain_moves (moves_cliRule s)
  case eorAby => exact plain_moves (moves_eorRule _ s)
  case nop5A => exact plain_moves (moves_nopRule s)
  case sreAby => exact plain_moves (moves_sreRule _ s)
  case nop5C => exact plain_moves (moves_nopReadRule _ s)
  case eorAbx => exact plain_moves (moves_eorRule _ s)
  case lsrAbx => exact plain_moves (moves_shiftMem _ _ (fun _ t => Moves.refl t) s)
  case sreAbx => exact plain_moves (moves_sreRule _ s)
  case rts => exact control_moves (moves_rtsRule s)
  case adcIzx => exact plain_moves (moves_adcRule _ s)
  case nop62 => exact plain_moves (moves_nopRule s)
  case rraIzx => exact plain_moves (moves_rraRule _ s)
  case nop64 => exact plain_moves (moves_nopReadRule _ s)
  case adcZp => exact plain_moves (moves_adcRule _ s)
  case rorZp => exact plain_moves (moves_shiftMem _ _ (fun _ t => Moves.refl t) s)
  case rraZp => exact plain_moves (moves_rraRule _ s)
  case pla => exact plain_moves (moves_plaRule s)
  case adcImm => exact plain_moves (moves_adcRule _ s)
  case rorAcc => exact plain_moves (moves_shiftAcc _ s)
  case arrImm => exact plain_moves (moves_arrRule _ s)
  case jmpInd => exact control_moves (moves_jmpIndirectRule s)
  case adcAbs => exact plain_moves (moves_adcRule _ s)
  case rorAbs => exact plain_moves (moves_shiftMem _ _ (fun _ t => Moves.refl t) s)
  case rraAbs => exact plain_moves (moves_rraRule _ s)
  case bvs => exact control_moves (moves_branchRule _ _ s)
  case adcIzy => exact plain_moves (moves_adcRule _ s)
  case nop72 => exact plain_moves (moves_nopRule s)
  case rraIzy => exact plain_moves (moves_rraRule _ s)
  case nop74 => exact plain_moves (moves_nopReadRule _ s)
  case adcZpx => exact plain_moves (moves_adcRule _ s)
  case rorZpx => exact plain_moves (moves_shiftMem _ _ (fun _ t => Moves.refl t) s)
  case rraZpx => exact plain_moves (moves_rraRule _ s)
  case sei => exact plain_moves (moves_seiRule s)
  case adcAby => exact plain_moves (moves_adcRule _ s)
  case nop7A => exact plain_moves (moves_nopRule s)
  case rraAby => exact plain_moves (moves_rraRule _ s)
  case nop7C => exact plain_moves (moves_nopReadRule _ s)
  case adcAbx => exact plain_moves (moves_adcRule _ s)
  case rorAbx => exact plain_moves (moves_shiftMem _ _ (fun _ t => Moves.refl t) s)
  case rraAbx => exact plain_moves (moves_rraRule _ s)
  case nop80 => exact plain_moves (moves_nopRule s)
  case staIzx => exact plain_moves (moves_staRule _ s)
  case nop82 => exact plain_moves (moves_nopRule s)
  case saxIzx => exact plain_moves (moves_saxRule _ s)
  case styZp => exact plain_moves (moves_styRule _ s)
  case staZp => exact plain_moves (moves_staRule _ s)
  case stxZp => exact plain_moves (moves_stxRule _ s)
  case saxZp => exact plain_moves (moves_saxRule _ s)
  case dey => exact plain_moves (moves_deyRule s)
  case nop89 => exact plain_moves (moves_nopRule s)
  case txa => exact plain_moves (moves_txaRule s)
  case xaaImm => exact plain_moves (moves_xaaRule _ s)
  case styAbs => exact plain_moves (moves_styRule _ s)
  case staAbs => exact plain_moves (moves_staRule _ s)
  case stxAbs => exact plain_moves (moves_stxRule _ s)
  case saxAbs => exact plain_moves (moves_saxRule _ s)
  case bcc => exact control_moves (moves_branchRule _ _ s)
  case staIzy => exact plain_moves (moves_staRule _ s)
  case nop92 => exact plain_moves (moves_nopRule s)
  case ahxIzy => exact plain_moves (moves_ahxRule _ s)
  case styZpx => exact plain_moves (moves_styRule _ s)
  case staZpx => exact plain_moves (moves_staRule _ s)
  case stxZpy => exact plain_moves (moves_stxRule _ s)
  case saxZpy => exact plain_moves (moves_saxRule _ s)
  case tya => exact plain_moves (moves_tyaRule s)
  case staAby => exact plain_moves (moves_staRule _ s)
  case txs => exact plain_moves (moves_txsRule s)
  case tasAby => exact plain_moves (moves_tasRule _ s)
  case shyAbx => exact plain_moves (moves_shyRule _ s)
  case staAbx => exact plain_moves (moves_staRule _ s)
  case shxAby => exact plain_moves (moves_shxRule _ s)
  case ahxAby => exact plain_moves (moves_ahxRule _ s)
  case ldyImm => exact plain_moves (moves_ldyRule _ s)
  case ldaIzx => exact plain_moves (moves_ldaRule _ s)
  case ldxImm => exact plain_moves (moves_ldxRule _ s)
  case laxIzx => exact plain_moves (moves_laxRule _ s)
  case ldyZp => exact plain_moves (moves_ldyRule _ s)
  case ldaZp => exact plain_moves (moves_ldaRule _ s)
  case ldxZp => exact plain_moves (moves_ldxRule _ s)
  case laxZp => exact plain_moves (moves_laxRule _ s)
  case tay => exact plain_moves (moves_tayRule s)
  case ldaImm => exact plain_moves (moves_ldaRule _ s)
  case tax => exact plain_moves (moves_taxRule s)
  case lxaImm => exact plain_moves (moves_lxaRule _ s)
  case ldyAbs => exact plain_moves (moves_ldyRule _ s)
  case ldaAbs => exact plain_moves (moves_ldaRule _ s)
  case ldxAbs => exact plain_moves (moves_ldxRule _ s)
  case laxAbs => exact plain_moves (moves_laxRule _ s)
  case bcs => exact control_moves (moves_branchRule _ _ s)
  case ldaIzy => exact plain_moves (moves_ldaRule _ s)
  case nopB2 => exact plain_moves (moves_nopRule s)
  case laxIzy => exact plain_moves (moves_laxRule _ s)
  case ldyZpx => exact plain_moves (moves_ldyRule _ s)
  case ldaZpx => exact plain_moves (moves_ldaRule _ s)
  case ldxZpy => exact plain_moves (moves_ldxRule _ s)
  case laxZpy => exact plain_moves (moves_laxRule _ s)
  case clv => exact plain_moves (moves_clvRule s)
  case ldaAby => exact plain_moves (moves_ldaRule _ s)
  case tsx => exact plain_moves (moves_tsxRule s)
  case lasAby => exact plain_moves (moves_lasRule _ s)
  case ldyAbx => exact plain_moves (moves_ldyRule _ s)
  case ldaAbx => exact plain_moves (moves_ldaRule _ s)
  case ldxAby => exact plain_moves (moves_ldxRule _ s)
  case laxAby => exact plain_moves (moves_laxRule _ s)
  case cpyImm => exact plain_moves (moves_cpyRule _ s)
  case cmpIzx => exact plain_moves (moves_cmpRule _ s)
  case nopC2 => exact plain_moves (moves_nopRule s)
  case dcpIzx => exact plain_moves (moves_dcpRule _ s)
  case cpyZp => exact plain_moves (moves_cpyRule _ s)
  case cmpZp => exact plain_moves (moves_cmpRule _ s)
  case decZp => exact plain_moves (moves_decRule _ s)
  case dcpZp => exact plain_moves (moves_dcpRule _ s)
  case iny => exact plain_moves (moves_inyRule s)
  case cmpImm => exact plain_moves (moves_cmpRule _ s)
  case dex => exact plain_moves (moves_dexRule s)
  case axsImm => exact plain_moves (moves_axsRule _ s)
  case cpyAbs => exact plain_moves (moves_cpyRule _ s)
  case cmpAbs => exact plain_moves (moves_cmpRule _ s)
  case decAbs => exact plain_moves (moves_decRule _ s)
  case dcpAbs => exact plain_moves (moves_dcpRule _ s)
  case bne => exact control_moves (moves_branchRule _ _ s)
  case cmpIzy => exact plain_moves (moves_cmpRule _ s)
  case nopD2 => exact plain_moves (moves_nopRule s)
  case dcpIzy => exact plain_moves (moves_dcpRule _ s)
  case nopD4 => exact plain_moves (moves_nopReadRule _ s)
  case cmpZpx => exact plain_moves (moves_cmpRule _ s)
  case decZpx => exact plain_moves (moves_decRule _ s)
  case dcpZpx => exact plain_moves (moves_dcpRule _ s)
  case cld => exact plain_moves (moves_cldRule s)
  case cmpAby => exact plain_moves (moves_cmpRule _ s)
  case nopDA => exact plain_moves (moves_nopRule s)
  case dcpAby => exact plain_moves (moves_dcpRule _ s)
  case nopDC => exact plain_moves (moves_nopReadRule _ s)
  case cmpAbx => exact plain_moves (moves_cmpRule _ s)
  case decAbx => exact plain_moves (moves_decRule _ s)
  case dcpAbx => exact plain_moves (moves_dcpRule _ s)
  case cpxImm => exact plain_moves (moves_cpxRule _ s)
  case sbcIzx => exact plain_moves (moves_sbcRule _ s)
  case nopE2 => exact plain_moves (moves_nopRule s)
  case isbIzx => exact plain_moves (moves_isbRule _ s)
  case cpxZp => exact plain_moves (moves_cpxRule _ s)
  case sbcZp => exact plain_moves (moves_sbcRule _ s)
  case incZp => exact plain_moves (moves_incRule _ s)
  case isbZp => exact plain_moves (moves_isbRule _ s)
  case inx => exact plain_moves (moves_inxRule s)
  case sbcImm => exact plain_moves (moves_sbcRule _ s)
  case nopEA => exact plain_moves (moves_nopRule s)
  case sbcEB => exact plain_moves (moves_sbcRule _ s)
  case cpxAbs => exact plain_moves (moves_cpxRule _ s)
  case sbcAbs => exact plain_moves (moves_sbcRule _ s)
  case incAbs => exact plain_moves (moves_incRule _ s)
  case isbAbs => exact plain_moves (moves_isbRule _ s)
  case beq => exact control_moves (moves_branchRule _ _ s)
  case sbcIzy => exact plain_moves (moves_sbcRule _ s)
  case nopF2 => exact plain_moves (moves_nopRule s)
  case isbIzy => exact plain_moves (moves_isbRule _ s)
  case nopF4 => exact plain_moves (moves_nopReadRule _ s)
  case sbcZpx => exact plain_moves (moves_sbcRule _ s)
  case incZpx => exact plain_moves (moves_incRule _ s)
  case isbZpx => exact plain_moves (moves_isbRule _ s)
  case sed => exact plain_moves (moves_sedRule s)
  case sbcAby => exact plain_moves (moves_sbcRule _ s)
  case nopFA => exact plain_moves (moves_nopRule s)
  case isbAby => exact plain_moves (moves_isbRule _ s)
  case nopFC => exact plain_moves (moves_nopReadRule _ s)
  case sbcAbx => exact plain_moves (moves_sbcRule _ s)
  case incAbx => exact plain_moves (moves_incRule _ s)
  case isbAbx => exact plain_moves (moves_isbRule _ s)

/-- BRK sets `halted` and nothing else (44_control_flow.md R262). -/
theorem exec_brk (s : State) : exec .brk s = finish { s with halted := true } := rfl

/-- What the moves keep: the halted bit, the cycle count, the configuration and the input. -/
theorem Moves.keeps {s t : State} (h : Moves s t) :
    t.halted = s.halted ∧ t.cycles = s.cycles ∧ t.cfg = s.cfg ∧ t.input = s.input := by
  induction h with
  | refl => exact ⟨rfl, rfl, rfl, rfl⟩
  | trans _ _ h k =>
    exact ⟨k.1.trans h.1, k.2.1.trans h.2.1, k.2.2.1.trans h.2.2.1, k.2.2.2.trans h.2.2.2⟩
  | read a s => exact ⟨busRead_halted a s, busRead_cycles a s, busRead_cfg a s, busRead_input a s⟩
  | write a v s => exact ⟨busWrite_halted a v s, busWrite_cycles a v s, busWrite_cfg a v s, busWrite_input a v s⟩
  | regs => exact ⟨rfl, rfl, rfl, rfl⟩
  | flags => exact ⟨rfl, rfl, rfl, rfl⟩

/-- In a permissive machine no move stops the step (60_exceptions.md R455). -/
theorem Moves.stop {s t : State} (h : Moves s t) : s.cfg.strict = false → t.stop = s.stop := by
  induction h with
  | refl => exact fun _ => rfl
  | trans h _ ih ik => exact fun e => (ik (by rw [h.keeps.2.2.1]; exact e)).trans (ih e)
  | read a s => exact busRead_stop a s
  | write a v s => exact busWrite_stop a v s
  | regs => exact fun _ => rfl
  | flags => exact fun _ => rfl

/-- Once an access has stopped the step, no move changes the stop: the first InvalidAccess counts (60_exceptions.md R455). -/
theorem Moves.stopped {s t : State} {r : Stop} (h : Moves s t) : s.stop = some r → t.stop = some r := by
  induction h with
  | refl => exact id
  | trans _ _ h k => exact fun e => k (h e)
  | read a s => exact busRead_stopped a s
  | write a v s => exact busWrite_stopped a v s
  | regs => exact id
  | flags => exact id

end Sys2Proof.Machine
end

