-- ==== Sys2Proof/Laws/PerInstr.lean ====
section
/-! SUPPORT. The family `Encoding`: what holds of every instruction's table entry as syntax, one lemma per constructor. -/
namespace Sys2Proof.Laws.Encoding

/-- The entry at the instruction's opcode byte is the instruction itself; its length is its format's; its cost is 2 to 8
cycles (30_encoding.md R132, R134). -/
def Statement (i : Instr) : Prop :=
  decodeOpcode i.desc.opcode = some i ∧ i.len = i.desc.mode.len ∧ 2 ≤ i.cycles ∧ i.cycles ≤ 8

theorem brk : Statement .brk := ⟨rfl, rfl, by decide, by decide⟩
theorem oraIzx : Statement .oraIzx := ⟨rfl, rfl, by decide, by decide⟩
theorem nop02 : Statement .nop02 := ⟨rfl, rfl, by decide, by decide⟩
theorem sloIzx : Statement .sloIzx := ⟨rfl, rfl, by decide, by decide⟩
theorem nop04 : Statement .nop04 := ⟨rfl, rfl, by decide, by decide⟩
theorem oraZp : Statement .oraZp := ⟨rfl, rfl, by decide, by decide⟩
theorem aslZp : Statement .aslZp := ⟨rfl, rfl, by decide, by decide⟩
theorem sloZp : Statement .sloZp := ⟨rfl, rfl, by decide, by decide⟩
theorem php : Statement .php := ⟨rfl, rfl, by decide, by decide⟩
theorem oraImm : Statement .oraImm := ⟨rfl, rfl, by decide, by decide⟩
theorem aslAcc : Statement .aslAcc := ⟨rfl, rfl, by decide, by decide⟩
theorem anc0B : Statement .anc0B := ⟨rfl, rfl, by decide, by decide⟩
theorem nop0C : Statement .nop0C := ⟨rfl, rfl, by decide, by decide⟩
theorem oraAbs : Statement .oraAbs := ⟨rfl, rfl, by decide, by decide⟩
theorem aslAbs : Statement .aslAbs := ⟨rfl, rfl, by decide, by decide⟩
theorem sloAbs : Statement .sloAbs := ⟨rfl, rfl, by decide, by decide⟩
theorem bpl : Statement .bpl := ⟨rfl, rfl, by decide, by decide⟩
theorem oraIzy : Statement .oraIzy := ⟨rfl, rfl, by decide, by decide⟩
theorem nop12 : Statement .nop12 := ⟨rfl, rfl, by decide, by decide⟩
theorem sloIzy : Statement .sloIzy := ⟨rfl, rfl, by decide, by decide⟩
theorem nop14 : Statement .nop14 := ⟨rfl, rfl, by decide, by decide⟩
theorem oraZpx : Statement .oraZpx := ⟨rfl, rfl, by decide, by decide⟩
theorem aslZpx : Statement .aslZpx := ⟨rfl, rfl, by decide, by decide⟩
theorem sloZpx : Statement .sloZpx := ⟨rfl, rfl, by decide, by decide⟩
theorem clc : Statement .clc := ⟨rfl, rfl, by decide, by decide⟩
theorem oraAby : Statement .oraAby := ⟨rfl, rfl, by decide, by decide⟩
theorem nop1A : Statement .nop1A := ⟨rfl, rfl, by decide, by decide⟩
theorem sloAby : Statement .sloAby := ⟨rfl, rfl, by decide, by decide⟩
theorem nop1C : Statement .nop1C := ⟨rfl, rfl, by decide, by decide⟩
theorem oraAbx : Statement .oraAbx := ⟨rfl, rfl, by decide, by decide⟩
theorem aslAbx : Statement .aslAbx := ⟨rfl, rfl, by decide, by decide⟩
theorem sloAbx : Statement .sloAbx := ⟨rfl, rfl, by decide, by decide⟩
theorem jsr : Statement .jsr := ⟨rfl, rfl, by decide, by decide⟩
theorem andIzx : Statement .andIzx := ⟨rfl, rfl, by decide, by decide⟩
theorem nop22 : Statement .nop22 := ⟨rfl, rfl, by decide, by decide⟩
theorem rlaIzx : Statement .rlaIzx := ⟨rfl, rfl, by decide, by decide⟩
theorem bitZp : Statement .bitZp := ⟨rfl, rfl, by decide, by decide⟩
theorem andZp : Statement .andZp := ⟨rfl, rfl, by decide, by decide⟩
theorem rolZp : Statement .rolZp := ⟨rfl, rfl, by decide, by decide⟩
theorem rlaZp : Statement .rlaZp := ⟨rfl, rfl, by decide, by decide⟩
theorem plp : Statement .plp := ⟨rfl, rfl, by decide, by decide⟩
theorem andImm : Statement .andImm := ⟨rfl, rfl, by decide, by decide⟩
theorem rolAcc : Statement .rolAcc := ⟨rfl, rfl, by decide, by decide⟩
theorem anc2B : Statement .anc2B := ⟨rfl, rfl, by decide, by decide⟩
theorem bitAbs : Statement .bitAbs := ⟨rfl, rfl, by decide, by decide⟩
theorem andAbs : Statement .andAbs := ⟨rfl, rfl, by decide, by decide⟩
theorem rolAbs : Statement .rolAbs := ⟨rfl, rfl, by decide, by decide⟩
theorem rlaAbs : Statement .rlaAbs := ⟨rfl, rfl, by decide, by decide⟩
theorem bmi : Statement .bmi := ⟨rfl, rfl, by decide, by decide⟩
theorem andIzy : Statement .andIzy := ⟨rfl, rfl, by decide, by decide⟩
theorem nop32 : Statement .nop32 := ⟨rfl, rfl, by decide, by decide⟩
theorem rlaIzy : Statement .rlaIzy := ⟨rfl, rfl, by decide, by decide⟩
theorem nop34 : Statement .nop34 := ⟨rfl, rfl, by decide, by decide⟩
theorem andZpx : Statement .andZpx := ⟨rfl, rfl, by decide, by decide⟩
theorem rolZpx : Statement .rolZpx := ⟨rfl, rfl, by decide, by decide⟩
theorem rlaZpx : Statement .rlaZpx := ⟨rfl, rfl, by decide, by decide⟩
theorem sec : Statement .sec := ⟨rfl, rfl, by decide, by decide⟩
theorem andAby : Statement .andAby := ⟨rfl, rfl, by decide, by decide⟩
theorem nop3A : Statement .nop3A := ⟨rfl, rfl, by decide, by decide⟩
theorem rlaAby : Statement .rlaAby := ⟨rfl, rfl, by decide, by decide⟩
theorem nop3C : Statement .nop3C := ⟨rfl, rfl, by decide, by decide⟩
theorem andAbx : Statement .andAbx := ⟨rfl, rfl, by decide, by decide⟩
theorem rolAbx : Statement .rolAbx := ⟨rfl, rfl, by decide, by decide⟩
theorem rlaAbx : Statement .rlaAbx := ⟨rfl, rfl, by decide, by decide⟩
theorem rti : Statement .rti := ⟨rfl, rfl, by decide, by decide⟩
theorem eorIzx : Statement .eorIzx := ⟨rfl, rfl, by decide, by decide⟩
theorem nop42 : Statement .nop42 := ⟨rfl, rfl, by decide, by decide⟩
theorem sreIzx : Statement .sreIzx := ⟨rfl, rfl, by decide, by decide⟩
theorem nop44 : Statement .nop44 := ⟨rfl, rfl, by decide, by decide⟩
theorem eorZp : Statement .eorZp := ⟨rfl, rfl, by decide, by decide⟩
theorem lsrZp : Statement .lsrZp := ⟨rfl, rfl, by decide, by decide⟩
theorem sreZp : Statement .sreZp := ⟨rfl, rfl, by decide, by decide⟩
theorem pha : Statement .pha := ⟨rfl, rfl, by decide, by decide⟩
theorem eorImm : Statement .eorImm := ⟨rfl, rfl, by decide, by decide⟩
theorem lsrAcc : Statement .lsrAcc := ⟨rfl, rfl, by decide, by decide⟩
theorem alrImm : Statement .alrImm := ⟨rfl, rfl, by decide, by decide⟩
theorem jmpAbs : Statement .jmpAbs := ⟨rfl, rfl, by decide, by decide⟩
theorem eorAbs : Statement .eorAbs := ⟨rfl, rfl, by decide, by decide⟩
theorem lsrAbs : Statement .lsrAbs := ⟨rfl, rfl, by decide, by decide⟩
theorem sreAbs : Statement .sreAbs := ⟨rfl, rfl, by decide, by decide⟩
theorem bvc : Statement .bvc := ⟨rfl, rfl, by decide, by decide⟩
theorem eorIzy : Statement .eorIzy := ⟨rfl, rfl, by decide, by decide⟩
theorem nop52 : Statement .nop52 := ⟨rfl, rfl, by decide, by decide⟩
theorem sreIzy : Statement .sreIzy := ⟨rfl, rfl, by decide, by decide⟩
theorem nop54 : Statement .nop54 := ⟨rfl, rfl, by decide, by decide⟩
theorem eorZpx : Statement .eorZpx := ⟨rfl, rfl, by decide, by decide⟩
theorem lsrZpx : Statement .lsrZpx := ⟨rfl, rfl, by decide, by decide⟩
theorem sreZpx : Statement .sreZpx := ⟨rfl, rfl, by decide, by decide⟩
theorem cli : Statement .cli := ⟨rfl, rfl, by decide, by decide⟩
theorem eorAby : Statement .eorAby := ⟨rfl, rfl, by decide, by decide⟩
theorem nop5A : Statement .nop5A := ⟨rfl, rfl, by decide, by decide⟩
theorem sreAby : Statement .sreAby := ⟨rfl, rfl, by decide, by decide⟩
theorem nop5C : Statement .nop5C := ⟨rfl, rfl, by decide, by decide⟩
theorem eorAbx : Statement .eorAbx := ⟨rfl, rfl, by decide, by decide⟩
theorem lsrAbx : Statement .lsrAbx := ⟨rfl, rfl, by decide, by decide⟩
theorem sreAbx : Statement .sreAbx := ⟨rfl, rfl, by decide, by decide⟩
theorem rts : Statement .rts := ⟨rfl, rfl, by decide, by decide⟩
theorem adcIzx : Statement .adcIzx := ⟨rfl, rfl, by decide, by decide⟩
theorem nop62 : Statement .nop62 := ⟨rfl, rfl, by decide, by decide⟩
theorem rraIzx : Statement .rraIzx := ⟨rfl, rfl, by decide, by decide⟩
theorem nop64 : Statement .nop64 := ⟨rfl, rfl, by decide, by decide⟩
theorem adcZp : Statement .adcZp := ⟨rfl, rfl, by decide, by decide⟩
theorem rorZp : Statement .rorZp := ⟨rfl, rfl, by decide, by decide⟩
theorem rraZp : Statement .rraZp := ⟨rfl, rfl, by decide, by decide⟩
theorem pla : Statement .pla := ⟨rfl, rfl, by decide, by decide⟩
theorem adcImm : Statement .adcImm := ⟨rfl, rfl, by decide, by decide⟩
theorem rorAcc : Statement .rorAcc := ⟨rfl, rfl, by decide, by decide⟩
theorem arrImm : Statement .arrImm := ⟨rfl, rfl, by decide, by decide⟩
theorem jmpInd : Statement .jmpInd := ⟨rfl, rfl, by decide, by decide⟩
theorem adcAbs : Statement .adcAbs := ⟨rfl, rfl, by decide, by decide⟩
theorem rorAbs : Statement .rorAbs := ⟨rfl, rfl, by decide, by decide⟩
theorem rraAbs : Statement .rraAbs := ⟨rfl, rfl, by decide, by decide⟩
theorem bvs : Statement .bvs := ⟨rfl, rfl, by decide, by decide⟩
theorem adcIzy : Statement .adcIzy := ⟨rfl, rfl, by decide, by decide⟩
theorem nop72 : Statement .nop72 := ⟨rfl, rfl, by decide, by decide⟩
theorem rraIzy : Statement .rraIzy := ⟨rfl, rfl, by decide, by decide⟩
theorem nop74 : Statement .nop74 := ⟨rfl, rfl, by decide, by decide⟩
theorem adcZpx : Statement .adcZpx := ⟨rfl, rfl, by decide, by decide⟩
theorem rorZpx : Statement .rorZpx := ⟨rfl, rfl, by decide, by decide⟩
theorem rraZpx : Statement .rraZpx := ⟨rfl, rfl, by decide, by decide⟩
theorem sei : Statement .sei := ⟨rfl, rfl, by decide, by decide⟩
theorem adcAby : Statement .adcAby := ⟨rfl, rfl, by decide, by decide⟩
theorem nop7A : Statement .nop7A := ⟨rfl, rfl, by decide, by decide⟩
theorem rraAby : Statement .rraAby := ⟨rfl, rfl, by decide, by decide⟩
theorem nop7C : Statement .nop7C := ⟨rfl, rfl, by decide, by decide⟩
theorem adcAbx : Statement .adcAbx := ⟨rfl, rfl, by decide, by decide⟩
theorem rorAbx : Statement .rorAbx := ⟨rfl, rfl, by decide, by decide⟩
theorem rraAbx : Statement .rraAbx := ⟨rfl, rfl, by decide, by decide⟩
theorem nop80 : Statement .nop80 := ⟨rfl, rfl, by decide, by decide⟩
theorem staIzx : Statement .staIzx := ⟨rfl, rfl, by decide, by decide⟩
theorem nop82 : Statement .nop82 := ⟨rfl, rfl, by decide, by decide⟩
theorem saxIzx : Statement .saxIzx := ⟨rfl, rfl, by decide, by decide⟩
theorem styZp : Statement .styZp := ⟨rfl, rfl, by decide, by decide⟩
theorem staZp : Statement .staZp := ⟨rfl, rfl, by decide, by decide⟩
theorem stxZp : Statement .stxZp := ⟨rfl, rfl, by decide, by decide⟩
theorem saxZp : Statement .saxZp := ⟨rfl, rfl, by decide, by decide⟩
theorem dey : Statement .dey := ⟨rfl, rfl, by decide, by decide⟩
theorem nop89 : Statement .nop89 := ⟨rfl, rfl, by decide, by decide⟩
theorem txa : Statement .txa := ⟨rfl, rfl, by decide, by decide⟩
theorem xaaImm : Statement .xaaImm := ⟨rfl, rfl, by decide, by decide⟩
theorem styAbs : Statement .styAbs := ⟨rfl, rfl, by decide, by decide⟩
theorem staAbs : Statement .staAbs := ⟨rfl, rfl, by decide, by decide⟩
theorem stxAbs : Statement .stxAbs := ⟨rfl, rfl, by decide, by decide⟩
theorem saxAbs : Statement .saxAbs := ⟨rfl, rfl, by decide, by decide⟩
theorem bcc : Statement .bcc := ⟨rfl, rfl, by decide, by decide⟩
theorem staIzy : Statement .staIzy := ⟨rfl, rfl, by decide, by decide⟩
theorem nop92 : Statement .nop92 := ⟨rfl, rfl, by decide, by decide⟩
theorem ahxIzy : Statement .ahxIzy := ⟨rfl, rfl, by decide, by decide⟩
theorem styZpx : Statement .styZpx := ⟨rfl, rfl, by decide, by decide⟩
theorem staZpx : Statement .staZpx := ⟨rfl, rfl, by decide, by decide⟩
theorem stxZpy : Statement .stxZpy := ⟨rfl, rfl, by decide, by decide⟩
theorem saxZpy : Statement .saxZpy := ⟨rfl, rfl, by decide, by decide⟩
theorem tya : Statement .tya := ⟨rfl, rfl, by decide, by decide⟩
theorem staAby : Statement .staAby := ⟨rfl, rfl, by decide, by decide⟩
theorem txs : Statement .txs := ⟨rfl, rfl, by decide, by decide⟩
theorem tasAby : Statement .tasAby := ⟨rfl, rfl, by decide, by decide⟩
theorem shyAbx : Statement .shyAbx := ⟨rfl, rfl, by decide, by decide⟩
theorem staAbx : Statement .staAbx := ⟨rfl, rfl, by decide, by decide⟩
theorem shxAby : Statement .shxAby := ⟨rfl, rfl, by decide, by decide⟩
theorem ahxAby : Statement .ahxAby := ⟨rfl, rfl, by decide, by decide⟩
theorem ldyImm : Statement .ldyImm := ⟨rfl, rfl, by decide, by decide⟩
theorem ldaIzx : Statement .ldaIzx := ⟨rfl, rfl, by decide, by decide⟩
theorem ldxImm : Statement .ldxImm := ⟨rfl, rfl, by decide, by decide⟩
theorem laxIzx : Statement .laxIzx := ⟨rfl, rfl, by decide, by decide⟩
theorem ldyZp : Statement .ldyZp := ⟨rfl, rfl, by decide, by decide⟩
theorem ldaZp : Statement .ldaZp := ⟨rfl, rfl, by decide, by decide⟩
theorem ldxZp : Statement .ldxZp := ⟨rfl, rfl, by decide, by decide⟩
theorem laxZp : Statement .laxZp := ⟨rfl, rfl, by decide, by decide⟩
theorem tay : Statement .tay := ⟨rfl, rfl, by decide, by decide⟩
theorem ldaImm : Statement .ldaImm := ⟨rfl, rfl, by decide, by decide⟩
theorem tax : Statement .tax := ⟨rfl, rfl, by decide, by decide⟩
theorem lxaImm : Statement .lxaImm := ⟨rfl, rfl, by decide, by decide⟩
theorem ldyAbs : Statement .ldyAbs := ⟨rfl, rfl, by decide, by decide⟩
theorem ldaAbs : Statement .ldaAbs := ⟨rfl, rfl, by decide, by decide⟩
theorem ldxAbs : Statement .ldxAbs := ⟨rfl, rfl, by decide, by decide⟩
theorem laxAbs : Statement .laxAbs := ⟨rfl, rfl, by decide, by decide⟩
theorem bcs : Statement .bcs := ⟨rfl, rfl, by decide, by decide⟩
theorem ldaIzy : Statement .ldaIzy := ⟨rfl, rfl, by decide, by decide⟩
theorem nopB2 : Statement .nopB2 := ⟨rfl, rfl, by decide, by decide⟩
theorem laxIzy : Statement .laxIzy := ⟨rfl, rfl, by decide, by decide⟩
theorem ldyZpx : Statement .ldyZpx := ⟨rfl, rfl, by decide, by decide⟩
theorem ldaZpx : Statement .ldaZpx := ⟨rfl, rfl, by decide, by decide⟩
theorem ldxZpy : Statement .ldxZpy := ⟨rfl, rfl, by decide, by decide⟩
theorem laxZpy : Statement .laxZpy := ⟨rfl, rfl, by decide, by decide⟩
theorem clv : Statement .clv := ⟨rfl, rfl, by decide, by decide⟩
theorem ldaAby : Statement .ldaAby := ⟨rfl, rfl, by decide, by decide⟩
theorem tsx : Statement .tsx := ⟨rfl, rfl, by decide, by decide⟩
theorem lasAby : Statement .lasAby := ⟨rfl, rfl, by decide, by decide⟩
theorem ldyAbx : Statement .ldyAbx := ⟨rfl, rfl, by decide, by decide⟩
theorem ldaAbx : Statement .ldaAbx := ⟨rfl, rfl, by decide, by decide⟩
theorem ldxAby : Statement .ldxAby := ⟨rfl, rfl, by decide, by decide⟩
theorem laxAby : Statement .laxAby := ⟨rfl, rfl, by decide, by decide⟩
theorem cpyImm : Statement .cpyImm := ⟨rfl, rfl, by decide, by decide⟩
theorem cmpIzx : Statement .cmpIzx := ⟨rfl, rfl, by decide, by decide⟩
theorem nopC2 : Statement .nopC2 := ⟨rfl, rfl, by decide, by decide⟩
theorem dcpIzx : Statement .dcpIzx := ⟨rfl, rfl, by decide, by decide⟩
theorem cpyZp : Statement .cpyZp := ⟨rfl, rfl, by decide, by decide⟩
theorem cmpZp : Statement .cmpZp := ⟨rfl, rfl, by decide, by decide⟩
theorem decZp : Statement .decZp := ⟨rfl, rfl, by decide, by decide⟩
theorem dcpZp : Statement .dcpZp := ⟨rfl, rfl, by decide, by decide⟩
theorem iny : Statement .iny := ⟨rfl, rfl, by decide, by decide⟩
theorem cmpImm : Statement .cmpImm := ⟨rfl, rfl, by decide, by decide⟩
theorem dex : Statement .dex := ⟨rfl, rfl, by decide, by decide⟩
theorem axsImm : Statement .axsImm := ⟨rfl, rfl, by decide, by decide⟩
theorem cpyAbs : Statement .cpyAbs := ⟨rfl, rfl, by decide, by decide⟩
theorem cmpAbs : Statement .cmpAbs := ⟨rfl, rfl, by decide, by decide⟩
theorem decAbs : Statement .decAbs := ⟨rfl, rfl, by decide, by decide⟩
theorem dcpAbs : Statement .dcpAbs := ⟨rfl, rfl, by decide, by decide⟩
theorem bne : Statement .bne := ⟨rfl, rfl, by decide, by decide⟩
theorem cmpIzy : Statement .cmpIzy := ⟨rfl, rfl, by decide, by decide⟩
theorem nopD2 : Statement .nopD2 := ⟨rfl, rfl, by decide, by decide⟩
theorem dcpIzy : Statement .dcpIzy := ⟨rfl, rfl, by decide, by decide⟩
theorem nopD4 : Statement .nopD4 := ⟨rfl, rfl, by decide, by decide⟩
theorem cmpZpx : Statement .cmpZpx := ⟨rfl, rfl, by decide, by decide⟩
theorem decZpx : Statement .decZpx := ⟨rfl, rfl, by decide, by decide⟩
theorem dcpZpx : Statement .dcpZpx := ⟨rfl, rfl, by decide, by decide⟩
theorem cld : Statement .cld := ⟨rfl, rfl, by decide, by decide⟩
theorem cmpAby : Statement .cmpAby := ⟨rfl, rfl, by decide, by decide⟩
theorem nopDA : Statement .nopDA := ⟨rfl, rfl, by decide, by decide⟩
theorem dcpAby : Statement .dcpAby := ⟨rfl, rfl, by decide, by decide⟩
theorem nopDC : Statement .nopDC := ⟨rfl, rfl, by decide, by decide⟩
theorem cmpAbx : Statement .cmpAbx := ⟨rfl, rfl, by decide, by decide⟩
theorem decAbx : Statement .decAbx := ⟨rfl, rfl, by decide, by decide⟩
theorem dcpAbx : Statement .dcpAbx := ⟨rfl, rfl, by decide, by decide⟩
theorem cpxImm : Statement .cpxImm := ⟨rfl, rfl, by decide, by decide⟩
theorem sbcIzx : Statement .sbcIzx := ⟨rfl, rfl, by decide, by decide⟩
theorem nopE2 : Statement .nopE2 := ⟨rfl, rfl, by decide, by decide⟩
theorem isbIzx : Statement .isbIzx := ⟨rfl, rfl, by decide, by decide⟩
theorem cpxZp : Statement .cpxZp := ⟨rfl, rfl, by decide, by decide⟩
theorem sbcZp : Statement .sbcZp := ⟨rfl, rfl, by decide, by decide⟩
theorem incZp : Statement .incZp := ⟨rfl, rfl, by decide, by decide⟩
theorem isbZp : Statement .isbZp := ⟨rfl, rfl, by decide, by decide⟩
theorem inx : Statement .inx := ⟨rfl, rfl, by decide, by decide⟩
theorem sbcImm : Statement .sbcImm := ⟨rfl, rfl, by decide, by decide⟩
theorem nopEA : Statement .nopEA := ⟨rfl, rfl, by decide, by decide⟩
theorem sbcEB : Statement .sbcEB := ⟨rfl, rfl, by decide, by decide⟩
theorem cpxAbs : Statement .cpxAbs := ⟨rfl, rfl, by decide, by decide⟩
theorem sbcAbs : Statement .sbcAbs := ⟨rfl, rfl, by decide, by decide⟩
theorem incAbs : Statement .incAbs := ⟨rfl, rfl, by decide, by decide⟩
theorem isbAbs : Statement .isbAbs := ⟨rfl, rfl, by decide, by decide⟩
theorem beq : Statement .beq := ⟨rfl, rfl, by decide, by decide⟩
theorem sbcIzy : Statement .sbcIzy := ⟨rfl, rfl, by decide, by decide⟩
theorem nopF2 : Statement .nopF2 := ⟨rfl, rfl, by decide, by decide⟩
theorem isbIzy : Statement .isbIzy := ⟨rfl, rfl, by decide, by decide⟩
theorem nopF4 : Statement .nopF4 := ⟨rfl, rfl, by decide, by decide⟩
theorem sbcZpx : Statement .sbcZpx := ⟨rfl, rfl, by decide, by decide⟩
theorem incZpx : Statement .incZpx := ⟨rfl, rfl, by decide, by decide⟩
theorem isbZpx : Statement .isbZpx := ⟨rfl, rfl, by decide, by decide⟩
theorem sed : Statement .sed := ⟨rfl, rfl, by decide, by decide⟩
theorem sbcAby : Statement .sbcAby := ⟨rfl, rfl, by decide, by decide⟩
theorem nopFA : Statement .nopFA := ⟨rfl, rfl, by decide, by decide⟩
theorem isbAby : Statement .isbAby := ⟨rfl, rfl, by decide, by decide⟩
theorem nopFC : Statement .nopFC := ⟨rfl, rfl, by decide, by decide⟩
theorem sbcAbx : Statement .sbcAbx := ⟨rfl, rfl, by decide, by decide⟩
theorem incAbx : Statement .incAbx := ⟨rfl, rfl, by decide, by decide⟩
theorem isbAbx : Statement .isbAbx := ⟨rfl, rfl, by decide, by decide⟩

end Sys2Proof.Laws.Encoding
end

