-- ==== Sys2Proof/Laws/Shapes.lean ====
section
/-! SUPPORT. How an instruction meets the shapes of Safety.lean: what the operand reads and the store of an instruction leave
alone, said once, and one introduction lemma for each shape. -/
namespace Sys2Proof.Machine

/-- `u` differs from `t` in A, X, Y, SP and P only. -/
def RegsOnly (t u : State) : Prop := u = { t with a := u.a, x := u.x, y := u.y, sp := u.sp, p := u.p }

theorem finish_next (s : State) (h : s.stop = none) : finish s = .next s := by
  unfold finish
  rw [h]

theorem plain_next (i : Instr) (effect : State → State) (s : State) (h : (effect s).stop = none) :
    plain i effect s = .next ((effect s).setPc ((effect s).pc + BitVec.ofNat 16 (i.len - 1))) := by
  unfold plain
  exact finish_next _ h

theorem control_next (effect : State → State) (s : State) (h : (effect s).stop = none) :
    control effect s = .next (effect s) := finish_next _ h

theorem operand_cpuSame (m : DataMode) (s : State) : CpuSame s (operand m s).2 :=
  (effAddr_cpuSame m s).trans (busRead_cpuSame _ _)

theorem operand_ram (m : DataMode) (s : State) : (operand m s).2.ram = s.ram := by
  simp [operand, effAddr_ram]

theorem operand_stop (m : DataMode) (s : State) (h : s.cfg.strict = false) : (operand m s).2.stop = s.stop :=
  (busRead_stop _ _ (by rw [(effAddr_cpuSame m s).cfg]; exact h)).trans (effAddr_stop m s h)

theorem busRead16_ppuSame (a : Addr) (s : State) : PpuReadSame s.ppu (busRead16 a s).2.ppu :=
  (busRead_ppuSame a s).trans (busRead_ppuSame (a + 1) (busRead a s).2)

theorem effAddr_ppuSame (m : DataMode) (s : State) : PpuReadSame s.ppu (effAddr m s).2.ppu := by
  cases m
  case imm => exact PpuReadSame.refl _
  case zp | zpx | zpy => exact busRead_ppuSame s.pc s
  case abs | abx | aby => exact busRead16_ppuSame s.pc s
  case izx | izy => simp only [effAddr, zeroPagePointer_eq]; exact busRead_ppuSame s.pc s

theorem operand_ppuSame (m : DataMode) (s : State) : PpuReadSame s.ppu (operand m s).2.ppu :=
  (effAddr_ppuSame m s).trans (busRead_ppuSame _ _)

/-- A state reached by Bus reads alone has the memory it started with. -/
theorem sameMemory_of_reads {s u : State} (hr : u.ram = s.ram) (hp : PpuReadSame s.ppu u.ppu) (hc : u.cfg = s.cfg) :
    s.SameMemory u :=
  ⟨fun k => by rw [hr], fun k => by rw [hp.vram], fun k => by rw [hp.palette], fun k => by rw [hp.oam], hc⟩

/-- The introduction of `Implied`: an effect on the registers and P alone. -/
theorem implied_intro {i : Instr} {effect : State → State → Prop} (f : State → State)
    (hx : ∀ s, exec i s = plain i f s) (hl : i.len = 1) (hr : ∀ s, RegsOnly s (f s))
    (he : ∀ s : State, effect s ((f s).setPc s.pc)) : Implied i effect := by
  intro s hs
  have hstop : (f s).stop = none := by rw [hr s]; exact hs.2
  have hpc : (f s).pc + BitVec.ofNat 16 (i.len - 1) = s.pc := by rw [hl, hr s]; simp
  refine ⟨(f s).setPc s.pc, ?_, he s, rfl, ?_, ?_, ?_, ?_⟩
  · rw [hx, plain_next _ _ _ hstop, hpc]
  · rw [hr s]; rfl
  · rw [hr s]; exact ⟨fun _ => rfl, fun _ => rfl, fun _ => rfl, fun _ => rfl, rfl⟩
  · rw [hr s]; exact ⟨rfl, rfl, rfl, hs.2⟩
  · rw [hr s]; exact ⟨rfl, rfl, rfl, rfl⟩

/-- The introduction of `Reads`: every form runs `readOperand` with one use of the operand, which changes the registers and P
alone. -/
theorem reads_intro {forms : List (Instr × DataMode)} {effect : State → Byte → State → Prop} (use : Byte → State → State)
    (hx : ∀ f ∈ forms, (∀ s, exec f.1 s = plain f.1 (readOperand f.2 use) s) ∧ f.1.len - 1 = operandBytes f.2)
    (hr : ∀ v t, RegsOnly t (use v t))
    (he : ∀ (s u : State) (v : Byte) (q : Addr), CpuSame s u → effect s v ((use v u).setPc q)) : Reads forms effect := by
  intro f hf s hs
  obtain ⟨hx, hl⟩ := hx f hf
  have hd : readOperand f.2 use s = use (operand f.2 s).1 (operand f.2 s).2 := rfl
  have hc := operand_cpuSame f.2 s
  have hst := (operand_stop f.2 s hs.1).trans hs.2
  have hm := sameMemory_of_reads (operand_ram f.2 s) (operand_ppuSame f.2 s) hc.cfg
  generalize operand f.2 s = o at *
  have hu := hr o.1 o.2
  have hstop : (readOperand f.2 use s).stop = none := by rw [hd, hu]; exact hst
  refine ⟨_, (hx s).trans (plain_next _ _ _ hstop), ?_, ?_, ?_, ?_, ?_, ?_⟩
  · rw [hd]; exact he _ _ _ _ hc
  · rw [hd, hl, hu]; simp [hc.pc]
  · rw [hd, hu]; exact hc.halted
  · rw [hd, hu]; exact hm
  · rw [hd, hu]; exact ⟨hc.cycles, hc.cfg, hc.input, hst⟩
  · rw [hd, hu]; exact ⟨rfl, rfl, rfl, rfl⟩

theorem ramIndex_eq (a : Addr) : ramIndex a = a.toNat % 0x800 := by
  unfold ramIndex
  rw [BitVec.toNat_and]
  exact Nat.and_two_pow_sub_one_eq_mod a.toNat 11

theorem ppuReg_toNat (a : Addr) (h : 0x2000 ≤ a.toNat) (h' : a.toNat < 0x4000) :
    ppuReg a = BitVec.ofNat 16 (0x2000 + a.toNat % 8) := by
  have key : a.toNat &&& 0x2007 = 0x2000 + a.toNat % 8 := by
    have hs : a.toNat &&& 0x2007 = (a.toNat &&& 0x2000) ||| (a.toNat &&& 0x7) := by
      rw [← Nat.and_or_distrib_left]
      rfl
    have h7 : a.toNat &&& 0x7 = a.toNat % 8 := Nat.and_two_pow_sub_one_eq_mod a.toNat 3
    have h2 : a.toNat &&& 0x2000 = 0x2000 := by
      have hb : a.toNat.testBit 13 = true := by
        rw [Nat.testBit_eq_decide_div_mod_eq]
        simp
        omega
      refine Nat.eq_of_testBit_eq fun i => ?_
      rw [Nat.testBit_and, show (0x2000 : Nat) = 2 ^ 13 from rfl, Nat.testBit_two_pow]
      by_cases hi : 13 = i
      · subst hi; simp [hb]
      · simp [hi]
    rw [hs, h7, h2]
    have hlt : a.toNat % 8 < 2 ^ 13 := by omega
    exact (Nat.two_pow_add_eq_or_of_lt hlt 1).symm
  refine BitVec.eq_of_toNat_eq ?_
  unfold ppuReg
  rw [BitVec.toNat_and]
  simp only [BitVec.toNat_ofNat]
  rw [show (8199 : Nat) % 2 ^ 16 = 0x2007 from rfl, key]
  omega

/-- The PPU register that an address of the window selects, by its low three bits. -/
theorem ppuReg_of_mod {a : Addr} (h : 0x2000 ≤ a.toNat) (h' : a.toNat < 0x4000) {k : Nat} (hk : a.toNat % 8 = k) :
    ppuReg a = BitVec.ofNat 16 (0x2000 + k) := hk ▸ ppuReg_toNat a h h'

theorem busRead_ppu {a : Addr} (s : State) (h : 0x2000 ≤ a.toNat) (h' : a.toNat < 0x4000) :
    busRead a s = ppuRegRead a s := by
  unfold busRead
  rw [if_neg (by omega), if_pos h']

theorem busWrite_ppu {a : Addr} (v : Byte) (s : State) (h : 0x2000 ≤ a.toNat) (h' : a.toNat < 0x4000) :
    busWrite a v s = ppuRegWrite a v s := by
  unfold busWrite
  rw [if_neg (by omega), if_pos h']

theorem oamDma_vram_palette (v : Byte) (s : State) :
    (oamDma v s).ppu.vram = s.ppu.vram ∧ (oamDma v s).ppu.palette = s.ppu.palette := by
  have key : ∀ (bs : List Byte) (p : Ppu), (bs.foldl (fun p b => p.writeOamData b) p).vram = p.vram ∧
      (bs.foldl (fun p b => p.writeOamData b) p).palette = p.palette := by
    intro bs
    induction bs with
    | nil => intro p; exact ⟨rfl, rfl⟩
    | cons b bs ih => intro p; exact ih (p.writeOamData b)
  have run : ∀ (n : Nat) (a : Addr) (s : State), PpuReadSame s.ppu (busReadRun n a s).2.ppu := by
    intro n
    induction n with
    | zero => intro a s; exact PpuReadSame.refl _
    | succ n ih => intro a s; exact (busRead_ppuSame a s).trans (ih (a + 1) (busRead a s).2)
  have r := run 256 (wordOf 0x00 v) s
  have k := key (busReadRun 256 (wordOf 0x00 v) s).1 (busReadRun 256 (wordOf 0x00 v) s).2.ppu
  exact ⟨k.1.trans r.vram, k.2.trans r.palette⟩

/-- VRAM and the palette are written through the data port alone. -/
theorem busWrite_vram_palette (a : Addr) (v : Byte) (s : State)
    (h : ¬ (0x2000 ≤ a.toNat ∧ a.toNat < 0x4000 ∧ a.toNat % 8 = 7)) :
    (busWrite a v s).ppu.vram = s.ppu.vram ∧ (busWrite a v s).ppu.palette = s.ppu.palette := by
  by_cases hp : 0x2000 ≤ a.toNat ∧ a.toNat < 0x4000
  · rw [busWrite_ppu v s hp.1 hp.2]
    have hr := ppuReg_toNat a hp.1 hp.2
    have hk : a.toNat % 8 = 0 ∨ a.toNat % 8 = 1 ∨ a.toNat % 8 = 2 ∨ a.toNat % 8 = 3 ∨ a.toNat % 8 = 4 ∨
        a.toNat % 8 = 5 ∨ a.toNat % 8 = 6 := by omega
    unfold ppuRegWrite
    rcases hk with k | k | k | k | k | k | k <;> rw [k] at hr <;> rw [hr] <;>
      simp [Ppu.writeCtrl, Ppu.writeMask, Ppu.writeOamAddr, Ppu.writeOamData, Ppu.writeScroll, Ppu.writeAddr,
        invalidAccess_devices] <;> split_ifs <;> simp
  · unfold busWrite
    split_ifs with h1 h2 h3 h4 h5 h6
    · exact ⟨rfl, rfl⟩
    · omega
    · exact oamDma_vram_palette v s
    · exact ⟨rfl, rfl⟩
    · exact ⟨rfl, rfl⟩
    · exact ⟨rfl, rfl⟩
    · rw [(invalidAccess_devices _ _ _).2.1]; exact ⟨rfl, rfl⟩

/-- OAM is written through 0x2004 and 0x4014 alone. -/
theorem busWrite_oam (a : Addr) (v : Byte) (s : State)
    (h : ¬ (0x2000 ≤ a.toNat ∧ a.toNat < 0x4000 ∧ a.toNat % 8 = 4)) (h' : a.toNat ≠ 0x4014) :
    (busWrite a v s).ppu.oam = s.ppu.oam := by
  by_cases hp : 0x2000 ≤ a.toNat ∧ a.toNat < 0x4000
  · rw [busWrite_ppu v s hp.1 hp.2]
    have hr := ppuReg_toNat a hp.1 hp.2
    have hk : a.toNat % 8 = 0 ∨ a.toNat % 8 = 1 ∨ a.toNat % 8 = 2 ∨ a.toNat % 8 = 3 ∨ a.toNat % 8 = 7 ∨
        a.toNat % 8 = 5 ∨ a.toNat % 8 = 6 := by omega
    unfold ppuRegWrite
    rcases hk with k | k | k | k | k | k | k <;> rw [k] at hr <;> rw [hr] <;>
      simp [Ppu.writeCtrl, Ppu.writeMask, Ppu.writeOamAddr, Ppu.writeScroll, Ppu.writeAddr,
        ppuWriteData, ppuWrite, Ppu.incAddr, logAt, emit, invalidAccess_devices] <;> split_ifs <;> simp
  · unfold busWrite
    split_ifs with h1 h2 h3 h4 h5 h6
    · rfl
    · omega
    · exact absurd (by rw [h3]; rfl) h'
    · rfl
    · rfl
    · rfl
    · rw [(invalidAccess_devices _ _ _).2.1]

/-- The frame of one Bus write from a state that Bus reads reached (Safety.lean's `StoreFrame`). -/
theorem storeFrame_of_write (ea : Addr) (v : Byte) {s u : State} (hw : s.MemoryWf) (hr : u.ram = s.ram)
    (hp : PpuReadSame s.ppu u.ppu) (hc : u.cfg = s.cfg) : s.StoreFrame ea v (busWrite ea v u) := by
  refine ⟨fun h => ?_, fun k h => ?_, fun h k => ?_, fun h h' k => ?_, ?_⟩
  · rw [busWrite_of_lt _ _ _ h]
    simp [ramIndex_eq, hr, Memory.read_write _ _ _ _ hw.1.1]
  · rcases h with ⟨h, hk⟩ | h
    · rw [busWrite_of_lt _ _ _ h]
      simp [ramIndex_eq, hr, Memory.read_write _ _ _ _ hw.1.1, hk]
    · rw [busWrite_ram_of_ge _ _ _ h, hr]
  · rw [(busWrite_vram_palette ea v u h).1, (busWrite_vram_palette ea v u h).2, hp.vram, hp.palette]
    exact ⟨rfl, rfl⟩
  · rw [busWrite_oam ea v u h h', hp.oam]
  · rw [busWrite_cfg, hc]

/-- The introduction of `Stores`: every form runs `storeOperand` with a value that depends on the registers alone. -/
theorem stores_intro {forms : List (Instr × DataMode)} {value : State → Addr → Byte} {effect : State → State → Prop}
    (val : Addr → State → Byte)
    (hx : ∀ f ∈ forms, (∀ s, exec f.1 s = plain f.1 (storeOperand f.2 val) s) ∧ f.1.len - 1 = operandBytes f.2)
    (hv : ∀ (s u : State) (ea : Addr), CpuSame s u → val ea u = value s ea)
    (he : ∀ s t : State, t.a = s.a → t.x = s.x → t.y = s.y → t.sp = s.sp → t.p = s.p → effect s t) :
    Stores forms value effect := by
  intro f hf s hs hw
  obtain ⟨hx, hl⟩ := hx f hf
  have hc := effAddr_cpuSame f.2 s
  have hst := (effAddr_stop f.2 s hs.1).trans hs.2
  have hd : storeOperand f.2 val s = busWrite (effAddr f.2 s).1 (value s (effAddr f.2 s).1) (effAddr f.2 s).2 := by
    rw [← hv s _ (effAddr f.2 s).1 hc]; rfl
  have hf := storeFrame_of_write (effAddr f.2 s).1 (value s (effAddr f.2 s).1) hw (effAddr_ram f.2 s)
    (effAddr_ppuSame f.2 s) hc.cfg
  have hb := hc.trans (busWrite_cpuSame (effAddr f.2 s).1 (value s (effAddr f.2 s).1) (effAddr f.2 s).2)
  have hstop : (storeOperand f.2 val s).stop = none := by
    rw [hd, busWrite_stop _ _ _ (by rw [hc.cfg]; exact hs.1)]; exact hst
  rw [hd] at hstop
  refine ⟨_, (hx s).trans (plain_next _ _ _ (by rw [hd]; exact hstop)), ?_, ?_, ?_, ?_, ?_, ?_⟩ <;> rw [hd]
  · exact he _ _ hb.a hb.x hb.y hb.sp hb.p
  · rw [hl]; simp
  · exact hb.halted
  · exact hf
  · exact ⟨hb.cycles, hb.cfg, hb.input, hstop⟩
  · exact ⟨rfl, rfl, rfl, rfl⟩

/-- The introduction of `Modifies`: every form runs `modifyOperand` with a result that depends on the carry and the operand, and
then changes the registers and P alone. -/
theorem modifies_intro {forms : List (Instr × DataMode)} {value : Bool → Byte → Byte}
    {effect : State → Byte → State → Prop} (result : Byte → State → Byte) (after : Byte → State → State)
    (hx : ∀ f ∈ forms, (∀ s, exec f.1 s = plain f.1 (modifyOperand f.2 result after) s) ∧
      f.1.len - 1 = operandBytes f.2)
    (hv : ∀ (u : State) (b : Byte), result b u = value u.flagC b)
    (hr : ∀ v t, RegsOnly t (after v t))
    (he : ∀ (s u : State) (v : Byte) (q : Addr), CpuSame s u → effect s v ((after v u).setPc q)) :
    Modifies forms value effect := by
  intro f hf s hs hw
  obtain ⟨hx, hl⟩ := hx f hf
  have hc := operand_cpuSame f.2 s
  have hst := (operand_stop f.2 s hs.1).trans hs.2
  have hcar : (operand f.2 s).2.flagC = s.flagC := by unfold State.flagC; rw [hc.p]
  have hd : modifyOperand f.2 result after s = after (operand f.2 s).1
      (busWrite (effAddr f.2 s).1 (value s.flagC (operand f.2 s).1) (operand f.2 s).2) := by
    rw [← hcar, ← hv]; rfl
  have hf := storeFrame_of_write (effAddr f.2 s).1 (value s.flagC (operand f.2 s).1) hw (operand_ram f.2 s)
    (operand_ppuSame f.2 s) hc.cfg
  have hb := hc.trans (busWrite_cpuSame (effAddr f.2 s).1 (value s.flagC (operand f.2 s).1) (operand f.2 s).2)
  have hstop : (busWrite (effAddr f.2 s).1 (value s.flagC (operand f.2 s).1) (operand f.2 s).2).stop = none := by
    rw [busWrite_stop _ _ _ (by rw [hc.cfg]; exact hs.1)]; exact hst
  generalize busWrite (effAddr f.2 s).1 (value s.flagC (operand f.2 s).1) (operand f.2 s).2 = w at *
  have hu := hr (operand f.2 s).1 w
  refine ⟨_, (hx s).trans (plain_next _ _ _ (by rw [hd, hu]; exact hstop)), ?_, ?_, ?_, ?_, ?_, ?_⟩ <;> rw [hd]
  · exact he _ _ _ _ hb
  · rw [hl, hu]; simp [hb.pc]
  · rw [hu]; exact hb.halted
  · rw [hu]; exact hf
  · rw [hu]; exact ⟨hb.cycles, hb.cfg, hb.input, hstop⟩
  · rw [hu]; exact ⟨rfl, rfl, rfl, rfl⟩

end Sys2Proof.Machine
end

