-- ==== Sys2Proof/Laws/Steps.lean ====
section
/-! SUPPORT. What a step can do, said once: the stack at its RAM index, the NMI entry and the return from it in closed form, the
tick, the PRG-ROM reads, and the inversion of `step`. -/
namespace Sys2Proof.Machine

/-! ### The stack -/

theorem stack_ramIndex (sp : Byte) : ramIndex (stackAddr sp) = 0x100 + sp.toNat := by
  rw [ramIndex_eq, stackAddr_toNat]; have := sp.isLt; omega

theorem pull_index (s : State) :
    pull s = (s.ram.read (0x100 + (s.sp + 1).toNat), { s with sp := s.sp + 1 }) := by rw [pull_eq, stack_ramIndex]

theorem push_index (v : Byte) (s : State) :
    push v s = { s with ram := s.ram.write (0x100 + s.sp.toNat) v, sp := s.sp - 1 } := by rw [push_eq, stack_ramIndex]

theorem sp_add_two (b : Byte) : b + 1 + 1 = b + 2 := by bv_omega
theorem sp_add_three (b : Byte) : b + 2 + 1 = b + 3 := by bv_omega
theorem sp_sub_two (b : Byte) : b - 1 - 1 = b - 2 := by bv_omega
theorem sp_sub_three (b : Byte) : b - 2 - 1 = b - 3 := by bv_omega

theorem hiByte_toNat (w : Addr) : (hiByte w).toNat = w.toNat / 256 := by
  have := w.isLt; simp [hiByte, Nat.shiftRight_eq_div_pow]; omega

theorem loByte_toNat (w : Addr) : (loByte w).toNat = w.toNat % 256 := by simp [loByte]

/-- The return from an NMI in closed form (44_control_flow.md R259). -/
theorem returnFromNmi_eq (s : State) : returnFromNmi s = { s with
    p := pulledStatus (s.ram.read (0x100 + (s.sp + 1).toNat)), sp := s.sp + 3
    pc := wordOf (s.ram.read (0x100 + (s.sp + 2).toNat)) (s.ram.read (0x100 + (s.sp + 3).toNat)) } := by
  unfold returnFromNmi pull16
  rw [pull_index]; dsimp only; rw [pull_index]; dsimp only; rw [pull_index]
  simp only [State.setP, State.setPc, sp_add_two, sp_add_three]

/-! ### The tick -/

/-- What a Bus tick leaves alone, and what it does to the clocks. -/
structure Ticked (n : Nat) (s t : State) : Prop where
  a : t.a = s.a
  x : t.x = s.x
  y : t.y = s.y
  sp : t.sp = s.sp
  pc : t.pc = s.pc
  p : t.p = s.p
  halted : t.halted = s.halted
  ram : t.ram = s.ram
  cfg : t.cfg = s.cfg
  stop : t.stop = s.stop
  cycles : t.cycles = s.cycles + n
  ppu : t.ppu = (s.ppu.tick (3 * n)).1

theorem busTick_ticked (n : Nat) (s : State) : Ticked n s (busTick n s) := by
  unfold busTick hostFrame emit
  dsimp only
  split_ifs
  · split <;> exact ⟨rfl, rfl, rfl, rfl, rfl, rfl, rfl, rfl, rfl, rfl, rfl, rfl⟩
  · exact ⟨rfl, rfl, rfl, rfl, rfl, rfl, rfl, rfl, rfl, rfl, rfl, rfl⟩

/-- A tick changes a joypad's buttons only. -/
theorem busTick_joypads (n : Nat) (s : State) :
    (busTick n s).joy0 = { s.joy0 with buttons := (busTick n s).joy0.buttons } ∧
    (busTick n s).joy1 = { s.joy1 with buttons := (busTick n s).joy1.buttons } := by
  unfold busTick hostFrame emit
  dsimp only
  split_ifs
  · split <;> exact ⟨rfl, rfl⟩
  · exact ⟨rfl, rfl⟩

theorem tick_within {p : Ppu} {n : Nat} (h : p.cycle + n < 341) :
    p.tick n = ({ p with cycle := p.cycle + n }, false) := by
  unfold Ppu.tick
  dsimp only
  rw [Nat.div_eq_of_lt h]; rfl

theorem tick_across {p : Ppu} {n : Nat} (h : 341 ≤ p.cycle + n) (h' : p.cycle + n < 682) :
    p.tick n = Ppu.nextScanline { p with cycle := p.cycle + n } := by
  unfold Ppu.tick
  dsimp only
  rw [show (p.cycle + n) / 341 = 1 by omega]
  simp [Ppu.runScanlines]

/-! ### PRG-ROM and the NMI entry -/

theorem busRead_prg {a : Addr} (s : State) (h : 0x8000 ≤ a.toNat) : busRead a s = (prgRead s.cfg a, s) := by
  have ne : ∀ k : Nat, k < 65536 → a.toNat ≠ k → a ≠ BitVec.ofNat 16 k := by
    intro k hk h e; apply h; rw [e]; simp; omega
  unfold busRead
  rw [if_neg (by omega), if_neg (by omega), if_neg (ne 0x4016 (by omega) (by omega)),
    if_neg (ne 0x4017 (by omega) (by omega)), if_neg (by omega), if_neg (by omega)]

theorem busRead16_prg {a : Addr} (s : State) (h : 0x8000 ≤ a.toNat) (h' : 0x8000 ≤ (a + 1).toNat) :
    busRead16 a s = (prgVector s.cfg a, s) := by
  unfold busRead16; rw [busRead_prg s h]; dsimp only; rw [busRead_prg s h']; rfl

/-- The NMI entry before its tick: PC and the status image pushed, I set. -/
def nmiPushed (s : State) : State := { s with
  ram := ((s.ram.write (0x100 + s.sp.toNat) (hiByte s.pc)).write (0x100 + (s.sp - 1).toNat) (loByte s.pc)).write
    (0x100 + (s.sp - 2).toNat) (nmiImage s.p)
  sp := s.sp - 3
  p := putBit s.p bitI true }

/-- The NMI entry in closed form (60_exceptions.md R460). -/
theorem nmiEntry_eq (s : State) : nmiEntry s = (busTick 2 (nmiPushed s)).setPc (prgVector s.cfg 0xFFFA) := by
  have hp : (push (nmiImage s.p) (push16 s.pc s)).setFlag bitI true = nmiPushed s := by
    unfold push16; rw [push_index, push_index, push_index]
    simp only [sp_sub_two, sp_sub_three, State.setFlag, State.setP, nmiPushed]
  unfold nmiEntry
  rw [hp]
  dsimp only
  rw [busRead16_prg _ (by decide) (by decide), (busTick_ticked _ _).cfg]
  rfl

/-! ### The step, inverted -/

theorem finish_eq_next {t u : State} (h : finish t = .next u) : t = u ∧ t.stop = none := by
  unfold finish at h
  split at h
  · cases h; exact ⟨rfl, ‹_›⟩
  · cases h

/-- An instruction that answers: BRK halts, every other one is made of moves; nothing stopped. -/
theorem exec_next {i : Instr} {s t : State} (h : exec i s = .next t) :
    t.stop = none ∧ (i = .brk ∧ t = { s with halted := true } ∨ i ≠ .brk ∧ Moves s t) := by
  by_cases hb : i = .brk
  · subst hb
    rw [exec_brk] at h
    obtain ⟨rfl, hs⟩ := finish_eq_next h
    exact ⟨hs, .inl ⟨rfl, rfl⟩⟩
  · obtain ⟨u, hu, hm⟩ := exec_moves i s hb
    rw [hu] at h
    obtain ⟨rfl, hs⟩ := finish_eq_next h
    exact ⟨hs, .inr ⟨hb, hm⟩⟩

theorem serviceNmi_of_not_pending {s : State} (h : s.ppu.nmiPending = false) : serviceNmi s = s := by
  unfold serviceNmi; rw [h]; simp [pollNmi]; cases s; rename_i ppu _ _ _ _ _ _; cases ppu; simp_all

/-- A step that answers: the machine ran; the NMI was serviced; the opcode was fetched, looked up and executed; and the
instruction was retired unless it halted the machine. -/
theorem step_next {s t : State} (h : step s = .next t) :
    s.halted = false ∧ ∃ i bytes u,
      decodeOpcode (busRead (serviceNmi s).pc (serviceNmi s)).1 = some i ∧
      exec i ((busRead (serviceNmi s).pc (serviceNmi s)).2.setPc ((serviceNmi s).pc + 1)) = .next u ∧
      bytes = (busRead (serviceNmi s).pc (serviceNmi s)).1 :: peekBytes (i.len - 1) ((serviceNmi s).pc + 1)
        ((busRead (serviceNmi s).pc (serviceNmi s)).2.setPc ((serviceNmi s).pc + 1)) ∧
      (u.halted = true ∧ t = u ∨ u.halted = false ∧ t = retire i bytes u) := by
  unfold step at h
  split at h
  · cases h
  · rename_i hh
    refine ⟨by simpa using hh, ?_⟩
    dsimp only [fetchOpcode] at h
    split at h
    · cases h
    · rename_i i hi
      cases he : exec i ((busRead (serviceNmi s).pc (serviceNmi s)).2.setPc ((serviceNmi s).pc + 1)) with
      | next u =>
        rw [he] at h
        refine ⟨i, _, u, hi, he, rfl, ?_⟩
        unfold afterExec at h
        dsimp only at h
        split_ifs at h with hu
        · cases h; exact .inl ⟨hu, rfl⟩
        · cases h; exact .inr ⟨by simpa using hu, rfl⟩
      | fault r => rw [he] at h; cases h
      | refused r => rw [he] at h; cases h

/-- What decodes at an address is the instruction of the byte that a Bus read there gives. -/
theorem decode_peekBytes {s : State} {a : Addr} {c : Code} {rest : List Byte}
    (h : decode (peekBytes 3 a s) = .ok (c, rest)) : decodeOpcode (busRead a s).1 = some c.op := by
  simp only [peekBytes, decode] at h
  split at h
  · cases h
  · rename_i i hi
    split_ifs at h
    cases h
    exact hi

theorem peekBytes_length : ∀ (n : Nat) (a : Addr) (s : State), (peekBytes n a s).length = n := by
  intro n; induction n with
  | zero => intros; rfl
  | succ n ih => intro a s; simp [peekBytes, ih]

/-! ### OAM DMA -/

theorem busReadRun_ppuSame : ∀ (n : Nat) (a : Addr) (s : State), PpuReadSame s.ppu (busReadRun n a s).2.ppu := by
  intro n
  induction n with
  | zero => intro a s; exact PpuReadSame.refl _
  | succ n ih => intro a s; exact (busRead_ppuSame a s).trans (ih (a + 1) (busRead a s).2)

end Sys2Proof.Machine
end

