-- ==== Sys2Proof/Laws/Strict.lean ====
section
/-! SUPPORT. What a strict machine's accesses do to the stop, said once (60_exceptions.md R453, R455): a Bus read and a Bus write
add the stop of their address to one that is already there, and a stop ends every instruction. -/
namespace Sys2Proof.Machine

theorem invalidAccess_strict (k : InvalidKind) (a : Addr) (s : State) (hs : s.cfg.strict = true) :
    invalidAccess k a s = { s with stop := s.stop.or (some ⟨k, a⟩) } := by
  unfold invalidAccess
  rw [if_pos hs]
  split
  · rw [‹s.stop = none›]; rfl
  · cases s; simp_all

theorem ppuReadData_stop (s : State) : (ppuReadData s).2.stop = s.stop := by
  unfold ppuReadData
  dsimp only
  split_ifs <;> rfl

/-- The register number decides whether a read of the window is invalid. -/
theorem ppuRegRead_strict {a : Addr} (s : State) (h : 0x2000 ≤ a.toNat) (h' : a.toNat < 0x4000) (hs : s.cfg.strict = true) :
    (ppuRegRead a s).2.stop = s.stop.or (readStop a) := by
  have hp := ppuReg_toNat a h h'
  have hk : a.toNat % 8 < 8 := Nat.mod_lt _ (by decide)
  unfold ppuRegRead readStop
  interval_cases hr : a.toNat % 8 <;> simp [hp, h, h', invalidAccess_strict, hs, ppuReadData_stop]

/-- A Bus read of a strict machine. -/
theorem busRead_strict (a : Addr) (s : State) (hs : s.cfg.strict = true) :
    (busRead a s).2.stop = s.stop.or (readStop a) := by
  by_cases h : 0x2000 ≤ a.toNat ∧ a.toNat < 0x4000
  · rw [busRead_ppu s h.1 h.2]; exact ppuRegRead_strict s h.1 h.2 hs
  · have hn : readStop a = none := if_neg (fun k => h ⟨k.1, k.2.1⟩)
    rw [hn, Option.or_none]
    unfold busRead
    split_ifs <;> first | rfl | omega

/-- Two Bus reads of a strict machine, at an address and the next. -/
theorem busRead16_strict (a : Addr) (s : State) (hs : s.cfg.strict = true) :
    (busRead16 a s).2.stop = s.stop.or (wordStop a) := by
  unfold busRead16 wordStop
  rw [busRead_strict _ _ (by rw [busRead_cfg]; exact hs), busRead_strict _ _ hs, Option.or_assoc]

/-- The operand and pointer reads of an addressing mode in a strict machine: a pointer in page 0 is read from RAM. -/
theorem effAddr_strict (m : DataMode) (s : State) (hs : s.cfg.strict = true) :
    (effAddr m s).2.stop = s.stop.or (operandStop m s.pc) := by
  cases m
  case imm => exact (Option.or_none).symm
  case zp | zpx | zpy => exact busRead_strict s.pc s hs
  case abs | abx | aby => exact busRead16_strict s.pc s hs
  case izx | izy => simp only [effAddr, zeroPagePointer_eq]; exact busRead_strict s.pc s hs

theorem ppuRegWrite_strict {a : Addr} (v : Byte) (s : State) (h : 0x2000 ≤ a.toNat) (h' : a.toNat < 0x4000)
    (hs : s.cfg.strict = true) : (ppuRegWrite a v s).stop = s.stop.or (writeStop a) := by
  have hp := ppuReg_toNat a h h'
  have hk : a.toNat % 8 < 8 := Nat.mod_lt _ (by decide)
  have hx : ¬ 0x8000 ≤ a.toNat := by omega
  unfold ppuRegWrite writeStop
  interval_cases hr : a.toNat % 8 <;> simp [hp, h, h', hx, invalidAccess_strict, hs, ppuWriteData_stop]

/-- A Bus write of a strict machine, but for the one that starts an OAM DMA. -/
theorem busWrite_strict (a : Addr) (v : Byte) (s : State) (hs : s.cfg.strict = true) (hd : a ≠ 0x4014) :
    (busWrite a v s).stop = s.stop.or (writeStop a) := by
  by_cases h : 0x2000 ≤ a.toNat ∧ a.toNat < 0x4000
  · rw [busWrite_ppu v s h.1 h.2]; exact ppuRegWrite_strict v s h.1 h.2 hs
  · have hn : writeStop a = if 0x8000 ≤ a.toNat then some ⟨.writeRom, a⟩ else none := if_neg (fun k => h ⟨k.1, k.2.1⟩)
    rw [hn]
    unfold busWrite
    split_ifs <;>
      first
      | omega
      | exact absurd ‹a = 0x4014#16› hd
      | with_reducible rw [invalidAccess_strict _ _ _ hs]
      | exact (Option.or_none).symm
      | (have := congrArg BitVec.toNat ‹a = 0x4016#16›; simp at this; omega)

/-- An OAM DMA's stop is that of its 256 reads. -/
theorem oamDma_stop_eq (v : Byte) (s : State) : (oamDma v s).stop = (busReadRun 256 (wordOf 0x00 v) s).2.stop := by
  unfold oamDma
  generalize busReadRun 256 (wordOf 0x00 v) s = r
  rfl

/-- An OAM DMA of a strict machine stops at its first read, when that read is invalid. -/
theorem oamDma_strict {r : Stop} (v : Byte) (s : State) (hs : s.cfg.strict = true) (h : s.stop = none)
    (hr : readStop (wordOf 0x00 v) = some r) : (oamDma v s).stop = some r := by
  have key : ∀ n, 0 < n → (busReadRun n (wordOf 0x00 v) s).2.stop = some r := by
    intro n hn
    obtain ⟨n, rfl⟩ := Nat.exists_eq_add_one_of_ne_zero hn.ne'
    refine busReadRun_stopped n _ (busRead (wordOf 0x00 v) s).2 ?_
    rw [busRead_strict _ _ hs, h, hr]; rfl
  rw [oamDma_stop_eq]
  exact key 256 (by decide)

/-- A stop that a read or a write leaves is the outcome of the instruction. -/
theorem finish_of_stop {s : State} {r : Stop} (h : s.stop = some r) : finish s = stopped r := by
  unfold finish stopped
  rw [h]

/-- A stop already there is the outcome of every instruction. -/
theorem exec_of_stop (i : Instr) {s : State} {r : Stop} (h : s.stop = some r) : exec i s = stopped r := by
  by_cases hb : i = .brk
  · subst hb; exact finish_of_stop (s := { s with halted := true }) h
  · obtain ⟨t, ht, m⟩ := exec_moves i s hb
    rw [ht]
    exact finish_of_stop (m.stopped h)

end Sys2Proof.Machine
end

