-- ==== Sys2Proof/Tests/Slice0.lean ====
section
/-! SUPPORT. Tests: ill-formed terms refused, decoding by words written out from 30_encoding.md, the vectors of
95_test_vectors.md as single steps or single operations, and a witness for the hypotheses of every statement. Every expected
value is the spec's. -/
namespace Sys2Proof.Tests
set_option Elab.async false
open Sys2Proof Sys2Proof.Machine

/-! ### Helpers -/

/-- 32 KB of PRG with the code from 0x8000 on and the reset vector 0x8000 (95_test_vectors.md, conventions). -/
def cart (code : List Byte) : Config := { Config.blank with prg := Memory.ofBytes code ++ [(0x7FFD, 0x80)] }

/-- The machine of the conventions after power-on. -/
def start (code : List Byte) : State := powerOn (cart code) [] [] [] [] []

/-- One step from the start with overrides `f` answers a next state, of which `ok` holds. -/
def after (code : List Byte) (f : State → State) (ok : State → Bool) : Bool :=
  match step (f (start code)) with
  | .next t => ok t
  | .fault _ => false
  | .refused _ => false

/-- The same, for the one instruction alone. -/
def execs (i : Instr) (s : State) (ok : State → Bool) : Bool :=
  match exec i s with
  | .next t => ok t
  | .fault _ => false
  | .refused _ => false

/-- The state after a sequence of Bus writes. -/
def writes (ws : List (Addr × Byte)) (s : State) : State := ws.foldl (fun t w => busWrite w.1 w.2 t) s

/-- What successive Bus reads of one address give. -/
def readings (a : Addr) : Nat → State → List Byte
  | 0, _ => []
  | n + 1, s => (busRead a s).1 :: readings a n (busRead a s).2

/-- The power-on machine of the conventions, with no code. -/
def plainStart : State := start []

/-- The opcode byte decodes to the instruction, of that many bytes, and the rest is left. -/
def decodesAs (r : Byte × Instr × Nat) : Bool :=
  match decode [r.1, 0x34, 0x12] with
  | .ok (c, rest) => c.op == r.2.1 && c.operands == [0x34, 0x12].take (r.2.2 - 1) && rest == [0x34, 0x12].drop (r.2.2 - 1)
  | .error _ => false

/-! ### WellFormed refuses ill-formed terms (30_encoding.md R130, R131) -/

theorem test_wellFormed_missing_operand : (Code.mk .ldaImm []).WellFormed = false := by decide
theorem test_wellFormed_missing_high_byte : (Code.mk .ldaAbs [0x02]).WellFormed = false := by decide
theorem test_wellFormed_extra_operand : (Code.mk .inx [0x00]).WellFormed = false := by decide
theorem test_wellFormed_too_long : (Code.mk .jmpAbs [0x01, 0x02, 0x03]).WellFormed = false := by decide
theorem test_wellFormed_accepts : (Code.mk .jmpInd [0x20, 0x01]).WellFormed = true := by decide

/-! ### Decoding, every constructor -/

/-- LDA, LDX, LDY, by opcode byte and length: 30_encoding.md R134, R135. -/
theorem test_decode_loads :
    ([(0xA1, .ldaIzx, 2), (0xA5, .ldaZp, 2), (0xA9, .ldaImm, 2), (0xAD, .ldaAbs, 3), (0xB1, .ldaIzy, 2), 
      (0xB5, .ldaZpx, 2), (0xB9, .ldaAby, 3), (0xBD, .ldaAbx, 3), (0xA2, .ldxImm, 2), (0xA6, .ldxZp, 2), 
      (0xAE, .ldxAbs, 3), (0xB6, .ldxZpy, 2), (0xBE, .ldxAby, 3), (0xA0, .ldyImm, 2), (0xA4, .ldyZp, 2), 
      (0xAC, .ldyAbs, 3), (0xB4, .ldyZpx, 2), (0xBC, .ldyAbx, 3)] : List (Byte × Instr × Nat)).all decodesAs = true := by decide +kernel

/-- STA, STX, STY, by opcode byte and length: 30_encoding.md R134, R135. -/
theorem test_decode_stores :
    ([(0x81, .staIzx, 2), (0x85, .staZp, 2), (0x8D, .staAbs, 3), (0x91, .staIzy, 2), (0x95, .staZpx, 2), 
      (0x99, .staAby, 3), (0x9D, .staAbx, 3), (0x86, .stxZp, 2), (0x8E, .stxAbs, 3), (0x96, .stxZpy, 2), 
      (0x84, .styZp, 2), (0x8C, .styAbs, 3), (0x94, .styZpx, 2)] : List (Byte × Instr × Nat)).all decodesAs = true := by decide +kernel

/-- TAX, TAY, TSX, TXA, TXS, TYA, by opcode byte and length: 30_encoding.md R134, R135. -/
theorem test_decode_transfers :
    ([(0xAA, .tax, 1), (0xA8, .tay, 1), (0xBA, .tsx, 1), (0x8A, .txa, 1), (0x9A, .txs, 1), (0x98, .tya, 1)] : List (Byte × Instr × Nat)).all decodesAs = true := by decide +kernel

/-- ADC, SBC, CMP, CPX, CPY, by opcode byte and length: 30_encoding.md R134, R135. -/
theorem test_decode_arithmetic :
    ([(0x61, .adcIzx, 2), (0x65, .adcZp, 2), (0x69, .adcImm, 2), (0x6D, .adcAbs, 3), (0x71, .adcIzy, 2), 
      (0x75, .adcZpx, 2), (0x79, .adcAby, 3), (0x7D, .adcAbx, 3), (0xE1, .sbcIzx, 2), (0xE5, .sbcZp, 2), 
      (0xE9, .sbcImm, 2), (0xEB, .sbcEB, 2), (0xED, .sbcAbs, 3), (0xF1, .sbcIzy, 2), (0xF5, .sbcZpx, 2), 
      (0xF9, .sbcAby, 3), (0xFD, .sbcAbx, 3), (0xC1, .cmpIzx, 2), (0xC5, .cmpZp, 2), (0xC9, .cmpImm, 2), 
      (0xCD, .cmpAbs, 3), (0xD1, .cmpIzy, 2), (0xD5, .cmpZpx, 2), (0xD9, .cmpAby, 3), (0xDD, .cmpAbx, 3), 
      (0xE0, .cpxImm, 2), (0xE4, .cpxZp, 2), (0xEC, .cpxAbs, 3), (0xC0, .cpyImm, 2), (0xC4, .cpyZp, 2), 
      (0xCC, .cpyAbs, 3)] : List (Byte × Instr × Nat)).all decodesAs = true := by decide +kernel

/-- AND, ORA, EOR, BIT, by opcode byte and length: 30_encoding.md R134, R135. -/
theorem test_decode_logic :
    ([(0x21, .andIzx, 2), (0x25, .andZp, 2), (0x29, .andImm, 2), (0x2D, .andAbs, 3), (0x31, .andIzy, 2), 
      (0x35, .andZpx, 2), (0x39, .andAby, 3), (0x3D, .andAbx, 3), (0x01, .oraIzx, 2), (0x05, .oraZp, 2), 
      (0x09, .oraImm, 2), (0x0D, .oraAbs, 3), (0x11, .oraIzy, 2), (0x15, .oraZpx, 2), (0x19, .oraAby, 3), 
      (0x1D, .oraAbx, 3), (0x41, .eorIzx, 2), (0x45, .eorZp, 2), (0x49, .eorImm, 2), (0x4D, .eorAbs, 3), 
      (0x51, .eorIzy, 2), (0x55, .eorZpx, 2), (0x59, .eorAby, 3), (0x5D, .eorAbx, 3), (0x24, .bitZp, 2), 
      (0x2C, .bitAbs, 3)] : List (Byte × Instr × Nat)).all decodesAs = true := by decide +kernel

/-- INC, INX, INY, DEC, DEX, DEY, by opcode byte and length: 30_encoding.md R134, R135. -/
theorem test_decode_steps :
    ([(0xE6, .incZp, 2), (0xEE, .incAbs, 3), (0xF6, .incZpx, 2), (0xFE, .incAbx, 3), (0xE8, .inx, 1), (0xC8, .iny, 1), 
      (0xC6, .decZp, 2), (0xCE, .decAbs, 3), (0xD6, .decZpx, 2), (0xDE, .decAbx, 3), (0xCA, .dex, 1), (0x88, .dey, 1)] : List (Byte × Instr × Nat)).all decodesAs = true := by decide +kernel

/-- ASL, LSR, ROL, ROR, by opcode byte and length: 30_encoding.md R134, R135. -/
theorem test_decode_shifts :
    ([(0x06, .aslZp, 2), (0x0A, .aslAcc, 1), (0x0E, .aslAbs, 3), (0x16, .aslZpx, 2), (0x1E, .aslAbx, 3), 
      (0x46, .lsrZp, 2), (0x4A, .lsrAcc, 1), (0x4E, .lsrAbs, 3), (0x56, .lsrZpx, 2), (0x5E, .lsrAbx, 3), 
      (0x26, .rolZp, 2), (0x2A, .rolAcc, 1), (0x2E, .rolAbs, 3), (0x36, .rolZpx, 2), (0x3E, .rolAbx, 3), 
      (0x66, .rorZp, 2), (0x6A, .rorAcc, 1), (0x6E, .rorAbs, 3), (0x76, .rorZpx, 2), (0x7E, .rorAbx, 3)] : List (Byte × Instr × Nat)).all decodesAs = true := by decide +kernel

/-- BCC, BCS, BEQ, BMI, BNE, BPL, BVC, BVS, by opcode byte and length: 30_encoding.md R134, R135. -/
theorem test_decode_branches :
    ([(0x90, .bcc, 2), (0xB0, .bcs, 2), (0xF0, .beq, 2), (0x30, .bmi, 2), (0xD0, .bne, 2), (0x10, .bpl, 2), 
      (0x50, .bvc, 2), (0x70, .bvs, 2)] : List (Byte × Instr × Nat)).all decodesAs = true := by decide +kernel

/-- BRK, JMP, JSR, RTI, RTS, by opcode byte and length: 30_encoding.md R134, R135. -/
theorem test_decode_control :
    ([(0x00, .brk, 1), (0x4C, .jmpAbs, 3), (0x6C, .jmpInd, 3), (0x20, .jsr, 3), (0x40, .rti, 1), (0x60, .rts, 1)] : List (Byte × Instr × Nat)).all decodesAs = true := by decide +kernel

/-- NOP, by opcode byte and length: 30_encoding.md R134, R135. -/
theorem test_decode_nops :
    ([(0x02, .nop02, 1), (0x04, .nop04, 2), (0x0C, .nop0C, 3), (0x12, .nop12, 1), (0x14, .nop14, 2), (0x1A, .nop1A, 1), 
      (0x1C, .nop1C, 3), (0x22, .nop22, 1), (0x32, .nop32, 1), (0x34, .nop34, 2), (0x3A, .nop3A, 1), (0x3C, .nop3C, 3), 
      (0x42, .nop42, 1), (0x44, .nop44, 2), (0x52, .nop52, 1), (0x54, .nop54, 2), (0x5A, .nop5A, 1), (0x5C, .nop5C, 3), 
      (0x62, .nop62, 1), (0x64, .nop64, 2), (0x72, .nop72, 1), (0x74, .nop74, 2), (0x7A, .nop7A, 1), (0x7C, .nop7C, 3), 
      (0x80, .nop80, 2), (0x82, .nop82, 2), (0x89, .nop89, 2), (0x92, .nop92, 1), (0xB2, .nopB2, 1), (0xC2, .nopC2, 2), 
      (0xD2, .nopD2, 1), (0xD4, .nopD4, 2), (0xDA, .nopDA, 1), (0xDC, .nopDC, 3), (0xE2, .nopE2, 2), (0xEA, .nopEA, 1), 
      (0xF2, .nopF2, 1), (0xF4, .nopF4, 2), (0xFA, .nopFA, 1), (0xFC, .nopFC, 3)] : List (Byte × Instr × Nat)).all decodesAs = true := by decide +kernel

/-- PHA, PHP, PLA, PLP, CLC, CLD, CLI, CLV, SEC, SED, SEI, by opcode byte and length: 30_encoding.md R134, R135. -/
theorem test_decode_stack_and_flags :
    ([(0x48, .pha, 1), (0x08, .php, 1), (0x68, .pla, 1), (0x28, .plp, 1), (0x18, .clc, 1), (0xD8, .cld, 1), 
      (0x58, .cli, 1), (0xB8, .clv, 1), (0x38, .sec, 1), (0xF8, .sed, 1), (0x78, .sei, 1)] : List (Byte × Instr × Nat)).all decodesAs = true := by decide +kernel

/-- SLO, RLA, SRE, RRA, DCP, ISB, by opcode byte and length: 30_encoding.md R134, R135. -/
theorem test_decode_composites :
    ([(0x03, .sloIzx, 2), (0x07, .sloZp, 2), (0x0F, .sloAbs, 3), (0x13, .sloIzy, 2), (0x17, .sloZpx, 2), 
      (0x1B, .sloAby, 3), (0x1F, .sloAbx, 3), (0x23, .rlaIzx, 2), (0x27, .rlaZp, 2), (0x2F, .rlaAbs, 3), 
      (0x33, .rlaIzy, 2), (0x37, .rlaZpx, 2), (0x3B, .rlaAby, 3), (0x3F, .rlaAbx, 3), (0x43, .sreIzx, 2), 
      (0x47, .sreZp, 2), (0x4F, .sreAbs, 3), (0x53, .sreIzy, 2), (0x57, .sreZpx, 2), (0x5B, .sreAby, 3), 
      (0x5F, .sreAbx, 3), (0x63, .rraIzx, 2), (0x67, .rraZp, 2), (0x6F, .rraAbs, 3), (0x73, .rraIzy, 2), 
      (0x77, .rraZpx, 2), (0x7B, .rraAby, 3), (0x7F, .rraAbx, 3), (0xC3, .dcpIzx, 2), (0xC7, .dcpZp, 2), 
      (0xCF, .dcpAbs, 3), (0xD3, .dcpIzy, 2), (0xD7, .dcpZpx, 2), (0xDB, .dcpAby, 3), (0xDF, .dcpAbx, 3), 
      (0xE3, .isbIzx, 2), (0xE7, .isbZp, 2), (0xEF, .isbAbs, 3), (0xF3, .isbIzy, 2), (0xF7, .isbZpx, 2), 
      (0xFB, .isbAby, 3), (0xFF, .isbAbx, 3)] : List (Byte × Instr × Nat)).all decodesAs = true := by decide +kernel

/-- LAX, SAX, by opcode byte and length: 30_encoding.md R134, R135. -/
theorem test_decode_lax_sax :
    ([(0xA3, .laxIzx, 2), (0xA7, .laxZp, 2), (0xAF, .laxAbs, 3), (0xB3, .laxIzy, 2), (0xB7, .laxZpy, 2), 
      (0xBF, .laxAby, 3), (0x83, .saxIzx, 2), (0x87, .saxZp, 2), (0x8F, .saxAbs, 3), (0x97, .saxZpy, 2)] : List (Byte × Instr × Nat)).all decodesAs = true := by decide +kernel

/-- ANC, ALR, ARR, AXS, by opcode byte and length: 30_encoding.md R134, R135. -/
theorem test_decode_immediates :
    ([(0x0B, .anc0B, 2), (0x2B, .anc2B, 2), (0x4B, .alrImm, 2), (0x6B, .arrImm, 2), (0xCB, .axsImm, 2)] : List (Byte × Instr × Nat)).all decodesAs = true := by decide +kernel

/-- LXA, XAA, LAS, TAS, AHX, SHX, SHY, by opcode byte and length: 30_encoding.md R134, R135. -/
theorem test_decode_unstable :
    ([(0xAB, .lxaImm, 2), (0x8B, .xaaImm, 2), (0xBB, .lasAby, 3), (0x9B, .tasAby, 3), (0x93, .ahxIzy, 2), 
      (0x9F, .ahxAby, 3), (0x9E, .shxAby, 3), (0x9C, .shyAbx, 3)] : List (Byte × Instr × Nat)).all decodesAs = true := by decide +kernel

/-- Bytes that do not decode are refused by name. -/
theorem test_decode_rejects :
    decode [] = .error .empty ∧ decode [0xA9] = .error (.truncated 0xA9) ∧ decode [0x20, 0x00] = .error (.truncated 0x20) :=
  ⟨rfl, rfl, rfl⟩

/-- Table words: the row's bits, the operand bytes zero. -/
theorem test_table_word :
    decodeTableWord 8 0x6C = some .jmpInd ∧ decodeTableWord 8 0x00 = some .brk ∧ decodeTableWord 24 0x8000AD = some .ldaAbs :=
  ⟨rfl, rfl, rfl⟩

/-- The word placed for the next step is the instruction it runs. -/
theorem test_withFetchWord :
    (match step (State.reset.withFetchWord 16 0x05A9) with
      | .next t => t.a == 0x05 && t.cycles == 2 && t.pc == 0x0002
      | .fault _ => false
      | .refused _ => false) = true := by decide +kernel

/-! ### Instructions: the vectors of 95_test_vectors.md, one step each -/

/-- LDX: 95_test_vectors.md L1, L7. -/
theorem test_ldx :
    after [0xA2, 0xFF] (id)
      (fun t => t.x == 0xFF && t.p == 0xA4 && t.pc == 0x8002 && t.cycles == 2) = true ∧
    after [0xB6, 0xFF] (fun s => { s with y := 0x02, ram := (s.ram.write 0x001 0x99) })
      (fun t => t.x == 0x99 && t.p == 0xA4 && t.pc == 0x8002 && t.cycles == 4) = true := by decide +kernel

/-- LDY: 95_test_vectors.md L2. -/
theorem test_ldy :
    after [0xA0, 0x00] (id)
      (fun t => t.y == 0x00 && t.p == 0x26 && t.pc == 0x8002 && t.cycles == 2) = true := by decide +kernel

/-- STA: 95_test_vectors.md L3, L8. -/
theorem test_sta :
    after [0x8D, 0x00, 0x02] (fun s => { s with a := 0x42 })
      (fun t => (busRead 0x0200 t).1 == 0x42 && (busRead 0x0A00 t).1 == 0x42 && t.p == 0x24 && t.pc == 0x8003 && t.cycles == 4) = true ∧
    after [0x8D, 0x00, 0x80] (fun s => { s with a := 0x42 })
      (fun t => t.pc == 0x8003 && t.cycles == 4 && t.events.getLast? == some (.log (.invalid .writeRom) 0x8000)) = true := by decide +kernel

/-- STY: 95_test_vectors.md L4. -/
theorem test_sty :
    after [0x94, 0x10] (fun s => { s with y := 0x09, x := 0x01 })
      (fun t => (busRead 0x0011 t).1 == 0x09 && t.pc == 0x8002 && t.cycles == 4) = true := by decide +kernel

/-- TSX: 95_test_vectors.md L5. -/
theorem test_tsx :
    after [0xBA] (id)
      (fun t => t.x == 0xFD && t.p == 0xA4 && t.pc == 0x8001 && t.cycles == 2) = true := by decide +kernel

/-- TXS: 95_test_vectors.md L6. -/
theorem test_txs :
    after [0x9A] (fun s => { s with x := 0xFF })
      (fun t => t.sp == 0xFF && t.p == 0x24 && t.cycles == 2) = true := by decide +kernel

/-- LDA: 95_test_vectors.md M1, M2, M3, M4, M5, M6. -/
theorem test_lda :
    after [0xB5, 0xF0] (fun s => { s with x := 0x20, ram := (s.ram.write 0x010 0x77) })
      (fun t => t.a == 0x77 && t.cycles == 4) = true ∧
    after [0xBD, 0xF0, 0x12] (fun s => { s with x := 0x20, ram := (s.ram.write 0x310 0x66) })
      (fun t => t.a == 0x66 && t.pc == 0x8003 && t.cycles == 4) = true ∧
    after [0xBD, 0xFF, 0xFF] (fun s => { s with x := 0x11, ram := (s.ram.write 0x010 0x3D) })
      (fun t => t.a == 0x3D && t.cycles == 4) = true ∧
    after [0xA1, 0xFE] (fun s => { s with x := 0x01, ram := (((s.ram.write 0x0FF 0x34).write 0x000 0x02).write 0x234 0x5A) })
      (fun t => t.a == 0x5A && t.pc == 0x8002 && t.cycles == 6) = true ∧
    after [0xB1, 0x10] (fun s => { s with y := 0x20, ram := (((s.ram.write 0x010 0xF0).write 0x011 0x12).write 0x310 0x6B) })
      (fun t => t.a == 0x6B && t.cycles == 5) = true ∧
    after [0xB1, 0xFF] (fun s => { s with y := 0x01, ram := (((s.ram.write 0x0FF 0x00).write 0x000 0x03).write 0x301 0x6C) })
      (fun t => t.a == 0x6C && t.cycles == 5) = true := by decide +kernel

/-- ADC: 95_test_vectors.md A1, A2, A3, A4, A5. -/
theorem test_adc :
    after [0x69, 0x50] (fun s => { s with a := 0x50, p := 0x24 })
      (fun t => t.a == 0xA0 && t.p == 0xE4 && t.pc == 0x8002 && t.cycles == 2) = true ∧
    after [0x69, 0x01] (fun s => { s with a := 0x7F, p := 0x24 })
      (fun t => t.a == 0x80 && t.p == 0xE4 && t.pc == 0x8002 && t.cycles == 2) = true ∧
    after [0x69, 0x01] (fun s => { s with a := 0xFF, p := 0x24 })
      (fun t => t.a == 0x00 && t.p == 0x27 && t.pc == 0x8002 && t.cycles == 2) = true ∧
    after [0x69, 0x80] (fun s => { s with a := 0x80, p := 0x24 })
      (fun t => t.a == 0x00 && t.p == 0x67 && t.pc == 0x8002 && t.cycles == 2) = true ∧
    after [0x69, 0xFF] (fun s => { s with a := 0xFF, p := 0x25 })
      (fun t => t.a == 0xFF && t.p == 0xA5 && t.pc == 0x8002 && t.cycles == 2) = true := by decide +kernel

/-- SBC: 95_test_vectors.md A6, A7, A8, A9, A10, A11, X16. -/
theorem test_sbc :
    after [0xE9, 0xF0] (fun s => { s with a := 0x50, p := 0x25 })
      (fun t => t.a == 0x60 && t.p == 0x24 && t.pc == 0x8002 && t.cycles == 2) = true ∧
    after [0xE9, 0xB0] (fun s => { s with a := 0x50, p := 0x25 })
      (fun t => t.a == 0xA0 && t.p == 0xE4 && t.pc == 0x8002 && t.cycles == 2) = true ∧
    after [0xE9, 0x01] (fun s => { s with a := 0x00, p := 0x25 })
      (fun t => t.a == 0xFF && t.p == 0xA4 && t.pc == 0x8002 && t.cycles == 2) = true ∧
    after [0xE9, 0x01] (fun s => { s with a := 0x80, p := 0x25 })
      (fun t => t.a == 0x7F && t.p == 0x65 && t.pc == 0x8002 && t.cycles == 2) = true ∧
    after [0xE9, 0x33] (fun s => { s with a := 0x33, p := 0x25 })
      (fun t => t.a == 0x00 && t.p == 0x27 && t.pc == 0x8002 && t.cycles == 2) = true ∧
    after [0xE9, 0x01] (fun s => { s with a := 0x10, p := 0x24 })
      (fun t => t.a == 0x0E && t.p == 0x25 && t.pc == 0x8002 && t.cycles == 2) = true ∧
    after [0xEB, 0x01] (fun s => { s with a := 0x10, p := 0x25 })
      (fun t => t.a == 0x0F && t.p == 0x25) = true := by decide +kernel

/-- AND: 95_test_vectors.md A13. -/
theorem test_and :
    after [0x29, 0x3C] (fun s => { s with a := 0xF0 })
      (fun t => t.a == 0x30 && t.p == 0x24 && t.pc == 0x8002 && t.cycles == 2) = true := by decide +kernel

/-- ORA: 95_test_vectors.md A14. -/
theorem test_ora :
    after [0x09, 0x80] (fun s => { s with a := 0x0F })
      (fun t => t.a == 0x8F && t.p == 0xA4 && t.pc == 0x8002 && t.cycles == 2) = true := by decide +kernel

/-- EOR: 95_test_vectors.md A15. -/
theorem test_eor :
    after [0x49, 0xAA] (fun s => { s with a := 0xAA })
      (fun t => t.a == 0x00 && t.p == 0x26 && t.pc == 0x8002 && t.cycles == 2) = true := by decide +kernel

/-- CMP: 95_test_vectors.md A16, A17, A18. -/
theorem test_cmp :
    after [0xC9, 0x20] (fun s => { s with a := 0x10 })
      (fun t => t.p == 0xA4 && t.pc == 0x8002 && t.cycles == 2) = true ∧
    after [0xC9, 0x01] (fun s => { s with a := 0x80 })
      (fun t => t.p == 0x25 && t.pc == 0x8002 && t.cycles == 2) = true ∧
    after [0xC9, 0x44] (fun s => { s with a := 0x44 })
      (fun t => t.p == 0x27 && t.pc == 0x8002 && t.cycles == 2) = true := by decide +kernel

/-- CPX: 95_test_vectors.md A19. -/
theorem test_cpx :
    after [0xE0, 0x05] (fun s => { s with x := 0x05 })
      (fun t => t.p == 0x27 && t.pc == 0x8002 && t.cycles == 2) = true := by decide +kernel

/-- CPY: 95_test_vectors.md A20. -/
theorem test_cpy :
    after [0xC0, 0x01] (fun s => { s with y := 0x00 })
      (fun t => t.p == 0xA4 && t.pc == 0x8002 && t.cycles == 2) = true := by decide +kernel

/-- BIT: 95_test_vectors.md A21. -/
theorem test_bit :
    after [0x24, 0x10] (fun s => { s with a := 0x01, ram := (s.ram.write 0x010 0xC0) })
      (fun t => t.p == 0xE6 && t.a == 0x01 && t.cycles == 3 && t.pc == 0x8002) = true := by decide +kernel

/-- INC: 95_test_vectors.md A22, A23. -/
theorem test_inc :
    after [0xE6, 0x10] (fun s => { s with ram := (s.ram.write 0x010 0xFF) })
      (fun t => (busRead 0x0010 t).1 == 0x00 && t.p == 0x26 && t.cycles == 5 && t.pc == 0x8002) = true ∧
    after [0xE6, 0x10] (fun s => { s with ram := (s.ram.write 0x010 0x7F) })
      (fun t => (busRead 0x0010 t).1 == 0x80 && t.p == 0xA4 && t.cycles == 5 && t.pc == 0x8002) = true := by decide +kernel

/-- DEC: 95_test_vectors.md A24. -/
theorem test_dec :
    after [0xC6, 0x10] (fun s => { s with ram := (s.ram.write 0x010 0x00) })
      (fun t => (busRead 0x0010 t).1 == 0xFF && t.p == 0xA4 && t.cycles == 5 && t.pc == 0x8002) = true := by decide +kernel

/-- INX: 95_test_vectors.md A25. -/
theorem test_inx :
    after [0xE8] (fun s => { s with x := 0xFF })
      (fun t => t.x == 0x00 && t.p == 0x26 && t.pc == 0x8001 && t.cycles == 2) = true := by decide +kernel

/-- INY: 95_test_vectors.md A26. -/
theorem test_iny :
    after [0xC8] (fun s => { s with y := 0x7F })
      (fun t => t.y == 0x80 && t.p == 0xA4 && t.pc == 0x8001 && t.cycles == 2) = true := by decide +kernel

/-- DEX: 95_test_vectors.md A27. -/
theorem test_dex :
    after [0xCA] (fun s => { s with x := 0x00 })
      (fun t => t.x == 0xFF && t.p == 0xA4 && t.pc == 0x8001 && t.cycles == 2) = true := by decide +kernel

/-- DEY: 95_test_vectors.md A28. -/
theorem test_dey :
    after [0x88] (fun s => { s with y := 0x01 })
      (fun t => t.y == 0x00 && t.p == 0x26 && t.pc == 0x8001 && t.cycles == 2) = true := by decide +kernel

/-- ASL: 95_test_vectors.md H1, H2, H11. -/
theorem test_asl :
    after [0x0A] (fun s => { s with a := 0x81 })
      (fun t => t.a == 0x02 && t.p == 0x25 && t.pc == 0x8001 && t.cycles == 2) = true ∧
    after [0x0A] (fun s => { s with a := 0x80 })
      (fun t => t.a == 0x00 && t.p == 0x27 && t.pc == 0x8001 && t.cycles == 2) = true ∧
    after [0x06, 0x10] (fun s => { s with ram := (s.ram.write 0x010 0xC0) })
      (fun t => (busRead 0x0010 t).1 == 0x80 && t.p == 0xA5 && t.pc == 0x8002 && t.cycles == 5) = true := by decide +kernel

/-- LSR: 95_test_vectors.md H3, H4. -/
theorem test_lsr :
    after [0x4A] (fun s => { s with a := 0x03 })
      (fun t => t.a == 0x01 && t.p == 0x25 && t.pc == 0x8001 && t.cycles == 2) = true ∧
    after [0x4A] (fun s => { s with a := 0x01 })
      (fun t => t.a == 0x00 && t.p == 0x27 && t.pc == 0x8001 && t.cycles == 2) = true := by decide +kernel

/-- ROL: 95_test_vectors.md H5, H6, H7. -/
theorem test_rol :
    after [0x2A] (fun s => { s with a := 0x40, p := 0x25 })
      (fun t => t.a == 0x81 && t.p == 0xA4 && t.pc == 0x8001 && t.cycles == 2) = true ∧
    after [0x2A] (fun s => { s with a := 0x80, p := 0x24 })
      (fun t => t.a == 0x00 && t.p == 0x27 && t.pc == 0x8001 && t.cycles == 2) = true ∧
    after [0x2A] (fun s => { s with a := 0x00, p := 0x25 })
      (fun t => t.a == 0x01 && t.p == 0x24 && t.pc == 0x8001 && t.cycles == 2) = true := by decide +kernel

/-- ROR: 95_test_vectors.md H8, H9, H10, H12. -/
theorem test_ror :
    after [0x6A] (fun s => { s with a := 0x02, p := 0x25 })
      (fun t => t.a == 0x81 && t.p == 0xA4 && t.pc == 0x8001 && t.cycles == 2) = true ∧
    after [0x6A] (fun s => { s with a := 0x01, p := 0x24 })
      (fun t => t.a == 0x00 && t.p == 0x27 && t.pc == 0x8001 && t.cycles == 2) = true ∧
    after [0x6A] (fun s => { s with a := 0x00, p := 0x25 })
      (fun t => t.a == 0x80 && t.p == 0xA4 && t.pc == 0x8001 && t.cycles == 2) = true ∧
    after [0x7E, 0xF0, 0x02] (fun s => { s with x := 0x20, p := 0x25, ram := (s.ram.write 0x310 0x01) })
      (fun t => (busRead 0x0310 t).1 == 0x80 && t.p == 0xA5 && t.pc == 0x8003 && t.cycles == 7) = true := by decide +kernel

/-- JMP: 95_test_vectors.md F1, F2, F3, F16. -/
theorem test_jmp :
    after [0x4C, 0x05, 0x80] (id)
      (fun t => t.pc == 0x8005 && t.cycles == 3) = true ∧
    after [0x6C, 0x20, 0x01] (fun s => { s with ram := ((s.ram.write 0x120 0xFC).write 0x121 0xBA) })
      (fun t => t.pc == 0xBAFC && t.cycles == 5) = true ∧
    after [0x6C, 0xFF, 0x02] (fun s => { s with ram := (((s.ram.write 0x2FF 0x34).write 0x200 0x12).write 0x300 0x56) })
      (fun t => t.pc == 0x1234 && t.cycles == 5) = true ∧
    after [0x4C, 0x01, 0x80] (id)
      (fun t => t.pc == 0x8001) = true := by decide +kernel

/-- RTI: 95_test_vectors.md F5, F6. -/
theorem test_rti :
    after [0x40] (fun s => { s with sp := 0xFA, ram := (((s.ram.write 0x1FB 0xE3).write 0x1FC 0x34).write 0x1FD 0x12) })
      (fun t => t.p == 0xE3 && t.pc == 0x1234 && t.sp == 0xFD && t.cycles == 6) = true ∧
    after [0x40] (fun s => { s with sp := 0xFA, ram := (((s.ram.write 0x1FB 0x1F).write 0x1FC 0x34).write 0x1FD 0x12) })
      (fun t => t.p == 0x2F && t.pc == 0x1234) = true := by decide +kernel

/-- BCC: 95_test_vectors.md F7. -/
theorem test_bcc :
    after [0x90, 0x04] (fun s => { s with p := 0x24 })
      (fun t => t.pc == 0x8006 && t.cycles == 2) = true := by decide +kernel

/-- BCS: 95_test_vectors.md F8. -/
theorem test_bcs :
    after [0xB0, 0x04] (fun s => { s with p := 0x24 })
      (fun t => t.pc == 0x8002 && t.cycles == 2) = true := by decide +kernel

/-- BMI: 95_test_vectors.md F10. -/
theorem test_bmi :
    after [0x30, 0x00] (fun s => { s with p := 0xA4 })
      (fun t => t.pc == 0x8002) = true := by decide +kernel

/-- BVC: 95_test_vectors.md F12. -/
theorem test_bvc :
    after [0x50, 0x02] (fun s => { s with p := 0x64 })
      (fun t => t.pc == 0x8002) = true := by decide +kernel

/-- BVS: 95_test_vectors.md F13. -/
theorem test_bvs :
    after [0x70, 0x02] (fun s => { s with p := 0x64 })
      (fun t => t.pc == 0x8004) = true := by decide +kernel

/-- BNE: 95_test_vectors.md F14, F15. -/
theorem test_bne :
    after [0xD0, 0xFE] (fun s => { s with p := 0x24 })
      (fun t => t.pc == 0x8000) = true ∧
    after [0xD0, 0xFF] (fun s => { s with p := 0x24 })
      (fun t => t.pc == 0x8001) = true := by decide +kernel

/-- NOP: 95_test_vectors.md F17, X17, X18, X19, X20, X21. -/
theorem test_nop :
    after [0xEA] (id)
      (fun t => t.pc == 0x8001 && t.cycles == 2) = true ∧
    after [0x1A] (id)
      (fun t => t.pc == 0x8001 && t.cycles == 2) = true ∧
    after [0x02] (id)
      (fun t => t.pc == 0x8001 && t.cycles == 2 && !t.halted) = true ∧
    after [0x80, 0x44] (id)
      (fun t => t.pc == 0x8002 && t.cycles == 2) = true ∧
    after [0x04, 0x44] (id)
      (fun t => t.pc == 0x8002 && t.cycles == 3) = true ∧
    after [0x1C, 0x00, 0x02] (id)
      (fun t => t.pc == 0x8003 && t.cycles == 4) = true := by decide +kernel

/-- PHA: 95_test_vectors.md K1, K2. -/
theorem test_pha :
    after [0x48] (fun s => { s with a := 0x42 })
      (fun t => (busRead 0x01FD t).1 == 0x42 && t.sp == 0xFC && t.cycles == 3 && t.pc == 0x8001) = true ∧
    after [0x48] (fun s => { s with a := 0x42, sp := 0x00 })
      (fun t => (busRead 0x0100 t).1 == 0x42 && t.sp == 0xFF && t.pc == 0x8001) = true := by decide +kernel

/-- PLA: 95_test_vectors.md K3, K4. -/
theorem test_pla :
    after [0x68] (fun s => { s with sp := 0xFC, a := 0x55, ram := (s.ram.write 0x1FD 0x00) })
      (fun t => t.a == 0x00 && t.p == 0x26 && t.sp == 0xFD && t.cycles == 4 && t.pc == 0x8001) = true ∧
    after [0x68] (fun s => { s with sp := 0xFF, ram := (s.ram.write 0x100 0x99) })
      (fun t => t.a == 0x99 && t.p == 0xA4 && t.sp == 0x00 && t.pc == 0x8001) = true := by decide +kernel

/-- PHP: 95_test_vectors.md K5. -/
theorem test_php :
    after [0x08] (fun s => { s with p := 0x24 })
      (fun t => (busRead 0x01FD t).1 == 0x34 && t.sp == 0xFC && t.p == 0x24 && t.cycles == 3 && t.pc == 0x8001) = true := by decide +kernel

/-- PLP: 95_test_vectors.md K6, K7. -/
theorem test_plp :
    after [0x28] (fun s => { s with sp := 0xFC, ram := (s.ram.write 0x1FD 0xFF) })
      (fun t => t.p == 0xEF && t.sp == 0xFD && t.cycles == 4 && t.pc == 0x8001) = true ∧
    after [0x28] (fun s => { s with sp := 0xFC, ram := (s.ram.write 0x1FD 0x00) })
      (fun t => t.p == 0x20 && t.pc == 0x8001) = true := by decide +kernel

/-- CLC: 95_test_vectors.md K8. -/
theorem test_clc :
    after [0x18] (fun s => { s with p := 0x25 })
      (fun t => t.p == 0x24 && t.cycles == 2 && t.pc == 0x8001) = true := by decide +kernel

/-- SEC: 95_test_vectors.md K9. -/
theorem test_sec :
    after [0x38] (fun s => { s with p := 0x24 })
      (fun t => t.p == 0x25 && t.pc == 0x8001) = true := by decide +kernel

/-- CLI: 95_test_vectors.md K10. -/
theorem test_cli :
    after [0x58] (fun s => { s with p := 0x24 })
      (fun t => t.p == 0x20 && t.pc == 0x8001) = true := by decide +kernel

/-- SEI: 95_test_vectors.md K11. -/
theorem test_sei :
    after [0x78] (fun s => { s with p := 0x20 })
      (fun t => t.p == 0x24 && t.pc == 0x8001) = true := by decide +kernel

/-- CLD: 95_test_vectors.md K12. -/
theorem test_cld :
    after [0xD8] (fun s => { s with p := 0x2C })
      (fun t => t.p == 0x24 && t.pc == 0x8001) = true := by decide +kernel

/-- SED: 95_test_vectors.md K13. -/
theorem test_sed :
    after [0xF8] (fun s => { s with p := 0x24 })
      (fun t => t.p == 0x2C && t.pc == 0x8001) = true := by decide +kernel

/-- CLV: 95_test_vectors.md K14. -/
theorem test_clv :
    after [0xB8] (fun s => { s with p := 0x64 })
      (fun t => t.p == 0x24 && t.pc == 0x8001) = true := by decide +kernel

/-- SLO: 95_test_vectors.md X1. -/
theorem test_slo :
    after [0x07, 0x10] (fun s => { s with a := 0x01, ram := (s.ram.write 0x010 0x81) })
      (fun t => (busRead 0x0010 t).1 == 0x02 && t.a == 0x03 && t.p == 0x25 && t.cycles == 5) = true := by decide +kernel

/-- RLA: 95_test_vectors.md X2. -/
theorem test_rla :
    after [0x27, 0x10] (fun s => { s with a := 0xF0, p := 0x25, ram := (s.ram.write 0x010 0x40) })
      (fun t => (busRead 0x0010 t).1 == 0x81 && t.a == 0x80 && t.p == 0xA4 && t.cycles == 5) = true := by decide +kernel

/-- SRE: 95_test_vectors.md X3. -/
theorem test_sre :
    after [0x47, 0x10] (fun s => { s with a := 0x01, ram := (s.ram.write 0x010 0x03) })
      (fun t => (busRead 0x0010 t).1 == 0x01 && t.a == 0x00 && t.p == 0x27 && t.cycles == 5) = true := by decide +kernel

/-- RRA: 95_test_vectors.md X4. -/
theorem test_rra :
    after [0x67, 0x10] (fun s => { s with a := 0x10, p := 0x24, ram := (s.ram.write 0x010 0x03) })
      (fun t => (busRead 0x0010 t).1 == 0x01 && t.a == 0x12 && t.p == 0x24 && t.cycles == 5) = true := by decide +kernel

/-- DCP: 95_test_vectors.md X5, X6. -/
theorem test_dcp :
    after [0xC7, 0x10] (fun s => { s with a := 0x05, ram := (s.ram.write 0x010 0x06) })
      (fun t => (busRead 0x0010 t).1 == 0x05 && t.p == 0x27 && t.cycles == 5) = true ∧
    after [0xC7, 0x10] (fun s => { s with a := 0x05, p := 0x25, ram := (s.ram.write 0x010 0x08) })
      (fun t => (busRead 0x0010 t).1 == 0x07 && t.p == 0xA4) = true := by decide +kernel

/-- ISB: 95_test_vectors.md X7. -/
theorem test_isb :
    after [0xE7, 0x10] (fun s => { s with a := 0x10, p := 0x25, ram := (s.ram.write 0x010 0x00) })
      (fun t => (busRead 0x0010 t).1 == 0x01 && t.a == 0x0F && t.p == 0x25 && t.cycles == 5) = true := by decide +kernel

/-- LAX: 95_test_vectors.md X8. -/
theorem test_lax :
    after [0xA7, 0x10] (fun s => { s with ram := (s.ram.write 0x010 0x80) })
      (fun t => t.a == 0x80 && t.x == 0x80 && t.p == 0xA4 && t.cycles == 3) = true := by decide +kernel

/-- SAX: 95_test_vectors.md X9. -/
theorem test_sax :
    after [0x87, 0x10] (fun s => { s with a := 0xF0, x := 0x3C })
      (fun t => (busRead 0x0010 t).1 == 0x30 && t.p == 0x24 && t.cycles == 3) = true := by decide +kernel

/-- ANC: 95_test_vectors.md X10. -/
theorem test_anc :
    after [0x0B, 0x80] (fun s => { s with a := 0xFF })
      (fun t => t.a == 0x80 && t.p == 0xA5 && t.cycles == 2) = true := by decide +kernel

/-- ALR: 95_test_vectors.md X11. -/
theorem test_alr :
    after [0x4B, 0x03] (fun s => { s with a := 0xFF })
      (fun t => t.a == 0x01 && t.p == 0x25) = true := by decide +kernel

/-- ARR: 95_test_vectors.md X12, X13. -/
theorem test_arr :
    after [0x6B, 0xFF] (fun s => { s with a := 0xFF, p := 0x25 })
      (fun t => t.a == 0xFF && t.p == 0xA5) = true ∧
    after [0x6B, 0x80] (fun s => { s with a := 0xFF, p := 0x24 })
      (fun t => t.a == 0x40 && t.p == 0x65) = true := by decide +kernel

/-- AXS: 95_test_vectors.md X14, X15. -/
theorem test_axs :
    after [0xCB, 0x01] (fun s => { s with a := 0xFF, x := 0x0F })
      (fun t => t.x == 0x0E && t.p == 0x25) = true ∧
    after [0xCB, 0x10] (fun s => { s with a := 0xFF, x := 0x0F, p := 0x25 })
      (fun t => t.x == 0xFF && t.p == 0xA4) = true := by decide +kernel

/-- LXA: 95_test_vectors.md X23. -/
theorem test_lxa :
    after [0xAB, 0x7F] (id)
      (fun t => t.a == 0x7F && t.x == 0x7F && t.p == 0x24) = true := by decide +kernel

/-- XAA: 95_test_vectors.md X24. -/
theorem test_xaa :
    after [0x8B, 0x3C] (fun s => { s with x := 0xF0 })
      (fun t => t.a == 0x30 && t.p == 0x24) = true := by decide +kernel

/-- LAS: 95_test_vectors.md X25. -/
theorem test_las :
    after [0xBB, 0x00, 0x02] (fun s => { s with ram := (s.ram.write 0x200 0x0F) })
      (fun t => t.a == 0x0D && t.x == 0x0D && t.sp == 0x0D && t.p == 0x24 && t.cycles == 4) = true := by decide +kernel

/-- TAS: 95_test_vectors.md X26. -/
theorem test_tas :
    after [0x9B, 0x00, 0x02] (fun s => { s with a := 0xFF, x := 0x0F })
      (fun t => t.sp == 0x0F && (busRead 0x0200 t).1 == 0x03 && t.cycles == 5) = true := by decide +kernel

/-- AHX: 95_test_vectors.md X27. -/
theorem test_ahx :
    after [0x9F, 0x00, 0x03] (fun s => { s with a := 0xFF, x := 0xFF })
      (fun t => (busRead 0x0300 t).1 == 0x03 && t.cycles == 5) = true := by decide +kernel

/-- SHX: 95_test_vectors.md X28. -/
theorem test_shx :
    after [0x9E, 0x00, 0x02] (fun s => { s with x := 0xFF })
      (fun t => (busRead 0x0200 t).1 == 0x03) = true := by decide +kernel

/-- SHY: 95_test_vectors.md X29. -/
theorem test_shy :
    after [0x9C, 0x00, 0x02] (fun s => { s with y := 0xFF })
      (fun t => (busRead 0x0200 t).1 == 0x03) = true := by decide +kernel

/-- JSR pushes the address of its last byte (95_test_vectors.md F4, first step). -/
theorem test_jsr : after [0x20, 0x00, 0x90] id (fun t => t.ram.read 0x1FD == 0x80 && t.ram.read 0x1FC == 0x02 && t.sp == 0xFB &&
    t.pc == 0x9000 && t.cycles == 6) = true := by decide +kernel

/-- RTS returns past the JSR (95_test_vectors.md F4, second step). -/
theorem test_rts : execs .rts { plainStart with ram := [(0x1FC, 0x02), (0x1FD, 0x80)], sp := 0xFB }
    (fun t => t.pc == 0x8003 && t.sp == 0xFD) = true := by decide +kernel

/-- BEQ backward by 16, the offset of 95_test_vectors.md F9 (44_control_flow.md R254, R257). -/
theorem test_beq_backward : execs .beq { start [0x00, 0xF0] with pc := 0x8001, p := 0x26 } (fun t => t.pc == 0x7FF2) = true := by
  decide +kernel

/-- STA and STY of the zero page with the index wrap: R168, R193, R195. -/
theorem test_sta_zero_page_x : after [0x95, 0xFF] (fun s => { s with a := 0x42, x := 0x02 })
    (fun t => t.ram.read 0x001 == 0x42 && t.p == 0x24 && t.cycles == 4) = true := by decide +kernel

/-- STX (41_load_store_transfer.md R194). -/
theorem test_stx : after [0x86, 0x10] (fun s => { s with x := 0x5A })
    (fun t => t.ram.read 0x010 == 0x5A && t.p == 0x24 && t.cycles == 3) = true := by decide +kernel

/-- TAX, TAY, TXA and TYA with Z and N (41_load_store_transfer.md R196, R197, R199, R201). -/
theorem test_transfers :
    after [0xAA] (fun s => { s with a := 0x80, x := 0x01 }) (fun t => t.x == 0x80 && t.p == 0xA4 && t.a == 0x80) = true ∧
    after [0xA8] (fun s => { s with a := 0x00, y := 0x01 }) (fun t => t.y == 0x00 && t.p == 0x26) = true ∧
    after [0x8A] (fun s => { s with a := 0x01, x := 0x80 }) (fun t => t.a == 0x80 && t.p == 0xA4) = true ∧
    after [0x98] (fun s => { s with a := 0x01, y := 0x7F }) (fun t => t.a == 0x7F && t.p == 0x24) = true := by decide +kernel

/-- BPL taken and not taken (44_control_flow.md R261, R254). -/
theorem test_bpl :
    after [0x10, 0x80] id (fun t => t.pc == 0x7F82) = true ∧
    after [0x10, 0x80] (fun s => { s with p := 0xA4 }) (fun t => t.pc == 0x8002) = true := by decide +kernel

/-- BRK halts without a tick, a push or a trace (95_test_vectors.md F18). -/
theorem test_brk : after [0x00] id (fun t => t.halted && t.pc == 0x8001 && t.sp == 0xFD && t.p == 0x24 && t.cycles == 0 &&
    t.events == [] && t.ram == []) = true := by decide +kernel

/-- ADC is binary with D set (95_test_vectors.md A12, second step). -/
theorem test_adc_decimal_ignored : after [0x69, 0x09] (fun s => { s with a := 0x09, p := 0x2C })
    (fun t => t.a == 0x12 && t.p == 0x2C) = true := by decide +kernel

/-- A NOP that reads 0x2002 has the read's side effects (95_test_vectors.md X22). -/
theorem test_nop_reads_status : after [0x0C, 0x02, 0x20]
    (fun s => { s with ppu := { s.ppu with status := 0x80, addrHiNext := false } })
    (fun t => t.ppu.status == 0x00 && t.ppu.addrHiNext && t.pc == 0x8003 && t.cycles == 4 && t.a == 0x00 && t.p == 0x24) = true := by
  decide +kernel

/-- The trace carries the registers after the instruction and its bytes (40_cpu_step_addressing.md R164). -/
theorem test_trace : after [0xA9, 0x05] id
    (fun t => t.events == [.trace 0x05 0x00 0x00 0xFD 0x24 0x8002 [0xA9, 0x05] .ldaImm]) = true := by decide +kernel

/-! ### The Bus (95_test_vectors.md 2.8, S1, S6) -/

theorem test_ram_mirror : (busRead 0x0A34 (busWrite 0x1234 0x5A plainStart)).1 = 0x5A := by decide +kernel
theorem test_write_only_register : (busRead 0x2000 plainStart).1 = 0x00 ∧
    (busRead 0x2000 plainStart).2 = { plainStart with events := [.log (.invalid .readWriteOnly) 0x2000] } := by decide +kernel
theorem test_status_write : busWrite 0x2002 0xFF plainStart =
    { plainStart with events := [.log (.invalid .writeStatus) 0x2002] } := by decide +kernel
theorem test_apu_stub : busRead 0x4015 plainStart = (0x00, plainStart) ∧ busRead 0x4014 plainStart = (0x00, plainStart) ∧
    busWrite 0x4017 0xFF plainStart = plainStart := by decide +kernel
theorem test_unmapped : busRead 0x5000 plainStart = (0x00, { plainStart with events := [.log .unmapped 0x5000] }) := by
  decide +kernel
theorem test_prg_16k_mirror : prgIndex .k16 0xBFFF = 0x3FFF ∧ prgIndex .k16 0xFFFF = 0x3FFF ∧ prgIndex .k16 0xC000 = 0 := by
  decide +kernel

/-! ### The PPU's registers (95_test_vectors.md 2.9) -/

theorem test_addr_mirror : (busWrite 0x3456 0x12 plainStart).ppu.addrValue = 0x1200 ∧
    (busWrite 0x3456 0x12 plainStart).ppu.addrHiNext = false := by decide +kernel
theorem test_addr_14_bits : (writes [(0x2006, 0x7F), (0x2006, 0x00)] plainStart).ppu.addrValue = 0x3F00 := by decide +kernel
theorem test_status_resets_addr_latch :
    (writes [(0x2006, 0x23), (0x2006, 0x45)] (busRead 0x2002 (busWrite 0x2006 0x21 plainStart)).2).ppu.addrValue = 0x2345 := by
  decide +kernel
theorem test_status_resets_scroll_latch :
    (writes [(0x2005, 0x44)] (busRead 0x2002 (busWrite 0x2005 0x33 plainStart)).2).ppu.scrollX = 0x44 := by decide +kernel
theorem test_data_buffer :
    readings 0x2007 3 (writes [(0x2006, 0x00), (0x2006, 0x00)]
      { plainStart with cfg := { plainStart.cfg with chr := [(0, 0xAA), (1, 0xBB)] } }) = [0x00, 0xAA, 0xBB] := by decide +kernel
theorem test_data_increment :
    (writes [(0x2000, 0x04), (0x2006, 0x20), (0x2006, 0x00), (0x2007, 0x01), (0x2007, 0x02)] plainStart).ppu.vram =
      [(0, 0x01), (32, 0x02)] := by decide +kernel
theorem test_data_address_wraps :
    (busRead 0x2007 (writes [(0x2000, 0x04), (0x2006, 0x3F), (0x2006, 0xF0)] plainStart)).2.ppu.addrValue = 0x0010 := by
  decide +kernel
theorem test_palette_alias :
    (writes [(0x2006, 0x3F), (0x2006, 0x10), (0x2007, 0x2A)] plainStart).ppu.palette = [(0, 0x2A)] ∧
    (writes [(0x2006, 0x3F), (0x2006, 0x11), (0x2007, 0x15)] plainStart).ppu.palette = [(0x11, 0x15)] := by decide +kernel
theorem test_palette_read_is_immediate :
    (busRead 0x2007 (writes [(0x2006, 0x3F), (0x2006, 0x20)]
      { plainStart with ppu := { plainStart.ppu with palette := [(0, 0x2A)], dataBuf := 0x99 } })).1 = 0x2A := by decide +kernel
theorem test_unused_range :
    (writes [(0x2006, 0x30), (0x2006, 0x00), (0x2007, 0x05)] plainStart).events = [.log .ppuUnused 0x3000] ∧
    (writes [(0x2006, 0x00), (0x2006, 0x10), (0x2007, 0x05)] plainStart).events = [.log .chrWrite 0x0010] := by decide +kernel
theorem test_mirroring_horizontal :
    [0x2000, 0x2400, 0x27FF, 0x2800, 0x2805, 0x2C00, 0x2C05, 0x2FFF].map (vramIndex .horizontal) =
      [0x000, 0x000, 0x3FF, 0x400, 0x405, 0x400, 0x405, 0x7FF] := by decide +kernel
theorem test_mirroring_vertical :
    [0x2000, 0x2400, 0x27FF, 0x2800, 0x2805, 0x2C00, 0x2C05, 0x2FFF].map (vramIndex .vertical) =
      [0x000, 0x400, 0x7FF, 0x000, 0x005, 0x400, 0x405, 0x7FF] := by decide +kernel
theorem test_oam_port :
    (writes [(0x2003, 0xFE), (0x2004, 0x01), (0x2004, 0x02), (0x2004, 0x03)] plainStart).ppu.oam =
      [(0x00, 0x03), (0xFE, 0x01), (0xFF, 0x02)] := by decide +kernel

/-! ### The clock and the NMI (95_test_vectors.md 2.10) -/

theorem test_tick_before_vblank : let r := plainStart.ppu.tick 82180
    r.2 = false ∧ r.1.scanline = 240 ∧ r.1.cycle = 340 ∧ r.1.status = 0x00 := by decide +kernel
theorem test_tick_into_vblank : let r := ({ plainStart.ppu with scanline := 240, cycle := 340 } : Ppu).tick 1
    r.2 = false ∧ r.1.scanline = 241 ∧ r.1.cycle = 0 ∧ r.1.status = 0x80 ∧ r.1.nmiPending = false := by decide +kernel
theorem test_tick_end_of_frame : let r := ({ plainStart.ppu with scanline := 261, cycle := 340, status := 0x80 } : Ppu).tick 1
    r.2 = true ∧ r.1.scanline = 0 ∧ r.1.cycle = 0 ∧ r.1.status = 0x00 := by decide +kernel

/-- The NOP whose tick reaches scanline 241 (95_test_vectors.md V6), then the NMI entry and a NOP in one step (V7). -/
theorem test_nop_raises_nmi : after [0xEA] (fun s => { s with cycles := 27392, ppu := { s.ppu with ctrl := 0x80, scanline := 240, cycle := 336 } })
    (fun t => t.cycles == 27394 && t.ppu.scanline == 241 && t.ppu.cycle == 1 && t.ppu.status == 0x80 && t.ppu.nmiPending &&
      t.events.contains .onFrame) = true := by decide +kernel
theorem test_nmi_then_nop : (match step { start [] with
      cfg := { Config.blank with prg := [(0x1000, 0xEA), (0x7FFB, 0x90)] }, pc := 0xB581, cycles := 27394
      ppu := { plainStart.ppu with ctrl := 0x80, status := 0x80, scanline := 241, cycle := 1, nmiPending := true } } with
      | .next t => t.ram == [(0x1FB, 0x24), (0x1FC, 0x81), (0x1FD, 0xB5)] && t.sp == 0xFA && t.p == 0x24 && t.pc == 0x9001 &&
          t.cycles == 27398 && t.ppu.cycle == 13 && !t.ppu.nmiPending && t.ppu.status == 0x80
      | .fault _ => false
      | .refused _ => false) = true := by decide +kernel
theorem test_nmi_entry_status : let t := nmiEntry { plainStart with pc := 0x8123, p := 0xA1 }
    t.ram.read 0x1FB = 0xA1 ∧ t.p = 0xA5 := by decide +kernel
theorem test_nmi_entry_stack_wraps : let t := nmiEntry { plainStart with pc := 0x8123, sp := 0x01 }
    t.ram = [(0x100, 0x23), (0x101, 0x81), (0x1FF, 0x24)] ∧ t.sp = 0xFE := by decide +kernel
theorem test_enable_in_vblank : let s := { plainStart with ppu := { plainStart.ppu with status := 0x80, scanline := 241 } }
    (busWrite 0x2000 0x80 s).ppu.nmiPending = true ∧ (busWrite 0x2000 0x80 s).events = [] ∧
    (writes [(0x2000, 0x80)] (pollNmi (busWrite 0x2000 0x80 s))).ppu.nmiPending = false := by decide +kernel

/-! ### Joypads, DMA, cartridge, picture (95_test_vectors.md S8 to S10, 2.11 to 2.13) -/

theorem test_joypad_low : readings 0x4016 10 (writes [(0x4016, 0x01), (0x4016, 0x00)]
    { plainStart with joy0 := ⟨0x95, false, 0⟩ }) = [1, 0, 1, 0, 1, 0, 0, 1, 1, 1] := by decide +kernel
theorem test_joypad_high : readings 0x4016 8 (writes [(0x4016, 0x01)]
    { plainStart with joy0 := ⟨0x95, false, 0⟩ }) = [1, 1, 1, 1, 1, 1, 1, 1] := by decide +kernel
/-- Page 2 with some bytes, and the OAM pointer at 0x10 (95_test_vectors.md S9). -/
def beforeDma : State :=
  { plainStart with
    ram := [(0x201, 0x01), (0x2EF, 0xEF), (0x2F0, 0xF0), (0x2FF, 0xFF)], ppu := { plainStart.ppu with oamAddr := 0x10 } }

theorem test_oam_dma : (busWrite 0x4014 0x02 beforeDma).ppu.oam = [(0x00, 0xF0), (0x0F, 0xFF), (0x11, 0x01), (0xFF, 0xEF)] ∧
    (busWrite 0x4014 0x02 beforeDma).ppu.oamAddr = 0x10 ∧ (busWrite 0x4014 0x02 beforeDma).cycles = 0 := by decide +kernel

theorem test_ines_mirroring :
    headerMirroring [0x4E, 0x45, 0x53, 0x1A, 0x02, 0x01, 0x05, 0x00] = .vertical ∧
    headerMirroring [0x4E, 0x45, 0x53, 0x1A, 0x02, 0x01, 0x09, 0x00] = .fourScreen ∧
    headerMapper [0x4E, 0x45, 0x53, 0x1A, 0x02, 0x01, 0x10, 0x40] = 0x41 ∧
    headerPrgOffset [0x4E, 0x45, 0x53, 0x1A, 0x02, 0x01, 0x05, 0x00] = 528 := by decide +kernel
theorem test_ines_rejects :
    parseINes [0x4E, 0x45, 0x53, 0x00] = .error .magic ∧
    parseINes [0x4E, 0x45, 0x53, 0x1A, 0x02, 0x01, 0x00, 0x08] = .error .nes2 ∧
    parseINes [0x4E, 0x45, 0x53, 0x1A, 0x01, 0x01, 0x00, 0x00] = .error .length := by decide +kernel

/-- The state of 48_ppu_render.md R415, with every sprite but 0 and 1 off screen, as G2 extends it. -/
def picture : State := { plainStart with
  cfg := { plainStart.cfg with chr := Memory.ofBytesFrom 0x10 (List.replicate 8 0xFF ++ List.replicate 8 0 ++ List.replicate 16 0x80) }
  ppu := { plainStart.ppu with
    vram := [(0, 1), (0x3C0, 0x02)], palette := [(0, 0x0F), (9, 0x21), (0x17, 0x30), (0x1B, 0x16)]
    oam := Memory.ofBytesFrom 0 ([0x04, 0x02, 0x41, 0x02, 0x04, 0x02, 0x02, 0x09] ++ List.replicate 248 0xF0) } }

theorem test_picture_background : [(0, 0), (7, 7), (0, 8), (8, 0), (4, 2)].map
    (fun q => framePixel picture.cfg picture.ppu q.1 q.2) = [0x21, 0x21, 0x0F, 0x0F, 0x21] := by decide +kernel
theorem test_picture_sprites : [(4, 9), (11, 9), (3, 9), (12, 9), (4, 8), (4, 10)].map
    (fun q => framePixel picture.cfg picture.ppu q.1 q.2) = [0x30, 0x30, 0x0F, 0x0F, 0x0F, 0x0F] := by decide +kernel

/-! ### Witnesses: a state and operands that meet each statement's hypotheses, each clause at the ends of its range -/

theorem witness_permissive : plainStart.Permissive := ⟨rfl, rfl⟩
theorem witness_memoryWf : plainStart.MemoryWf := ⟨⟨rfl, rfl⟩, ⟨rfl, rfl⟩, ⟨rfl, rfl⟩, ⟨rfl, rfl⟩⟩
theorem witness_statusBits : plainStart.StatusBits := ⟨rfl, rfl⟩

/-- A permissive machine: the hypothesis of Reads and Implied, whose lists of forms are written out in the statements. -/
theorem witness_Loads : plainStart.Permissive := witness_permissive
theorem witness_Transfers : plainStart.Permissive := witness_permissive
theorem witness_AdcAdds : plainStart.Permissive := witness_permissive
theorem witness_SbcSubtracts : plainStart.Permissive := witness_permissive
theorem witness_LogicOps : plainStart.Permissive := witness_permissive
theorem witness_Compares : plainStart.Permissive := witness_permissive
theorem witness_BitTests : plainStart.Permissive := witness_permissive
theorem witness_ShiftsOfTheAccumulator : plainStart.Permissive := witness_permissive
theorem witness_FlagInstructions : plainStart.Permissive := witness_permissive
theorem witness_NopsChangeNothing : plainStart.Permissive := witness_permissive
theorem witness_ImmediateComposites : plainStart.Permissive := witness_permissive
theorem witness_Jumps : plainStart.Permissive := witness_permissive
theorem witness_RtiReturns : plainStart.Permissive := witness_permissive
theorem witness_EveryInstructionCompletes : plainStart.Permissive := witness_permissive

/-- The same with canonical memories: the hypotheses of Stores and Modifies. -/
theorem witness_RegisterStores : plainStart.Permissive ∧ plainStart.MemoryWf := ⟨witness_permissive, witness_memoryWf⟩
theorem witness_IncrementsAndDecrements : plainStart.Permissive ∧ plainStart.MemoryWf := ⟨witness_permissive, witness_memoryWf⟩
theorem witness_ShiftsOfMemory : plainStart.Permissive ∧ plainStart.MemoryWf := ⟨witness_permissive, witness_memoryWf⟩
theorem witness_ShiftComposites : plainStart.Permissive ∧ plainStart.MemoryWf := ⟨witness_permissive, witness_memoryWf⟩
theorem witness_ArithmeticComposites : plainStart.Permissive ∧ plainStart.MemoryWf := ⟨witness_permissive, witness_memoryWf⟩
theorem witness_LaxAndSax : plainStart.Permissive ∧ plainStart.MemoryWf := ⟨witness_permissive, witness_memoryWf⟩
theorem witness_UnstableOpcodes : plainStart.Permissive ∧ plainStart.MemoryWf := ⟨witness_permissive, witness_memoryWf⟩
theorem witness_StackInstructions : plainStart.Permissive ∧ plainStart.MemoryWf := ⟨witness_permissive, witness_memoryWf⟩
theorem witness_SubroutineCallAndReturn : plainStart.Permissive ∧ plainStart.MemoryWf := ⟨witness_permissive, witness_memoryWf⟩
theorem witness_NmiEntryEffect : plainStart.MemoryWf := witness_memoryWf
theorem witness_NmiThenRtiRestores : plainStart.Permissive ∧ plainStart.MemoryWf ∧ plainStart.StatusBits :=
  ⟨witness_permissive, witness_memoryWf, witness_statusBits⟩

/-- A well-formed instruction; bytes that decode. -/
theorem witness_DecodeOfEncode : (Code.mk .jmpInd [0x20, 0x01]).WellFormed = true := by decide
theorem witness_EncodeOfDecode : decode [0x6C, 0x20, 0x01, 0xEA] = .ok (⟨.jmpInd, [0x20, 0x01]⟩, [0xEA]) := rfl

/-- The bytes at PC decode, with no NMI pending and with one pending. -/
theorem witness_StepRunsTheDecodedInstruction : (start [0xA9, 0x05]).halted = false ∧ (start [0xA9, 0x05]).ppu.nmiPending = false ∧
    decode (peekBytes 3 0x8000 (start [0xA9, 0x05])) = .ok (⟨.ldaImm, [0x05]⟩, [0x00]) ∧ (start [0xA9, 0x05]).pc = 0x8000 := by
  decide +kernel
/-- A machine with the NMI pending and a NOP at the handler. -/
def nmiDue : State := { plainStart with
  cfg := { Config.blank with prg := [(0x1000, 0xEA), (0x7FFB, 0x90)] }
  ppu := { plainStart.ppu with status := 0x80, scanline := 241, nmiPending := true } }
theorem witness_PendingNmiIsTakenBeforeTheFetch : nmiDue.halted = false ∧ nmiDue.ppu.nmiPending = true ∧
    (nmiEntry (pollNmi nmiDue)).pc = 0x9000 ∧
    decode (peekBytes 3 0x9000 (nmiEntry (pollNmi nmiDue))) = .ok (⟨.nopEA, []⟩, [0x00, 0x00]) := by decide +kernel
/-- A step that leaves the machine running. -/
theorem witness_StepChargesTheTableCost : (start [0xEA]).ppu.nmiPending = false ∧
    ∃ t, step (start [0xEA]) = .next t ∧ t.halted = false := ⟨by decide +kernel, _, rfl, by decide +kernel⟩
theorem witness_ConfigurationNeverChanges : ∃ t, step (start [0xEA]) = .next t := ⟨_, rfl⟩

/-- An instruction that answers; a halted machine; a BRK at PC. -/
theorem witness_OnlyBrkHalts : (∃ t, exec .brk plainStart = .next t ∧ t.halted = true) ∧
    (∃ t, exec .inx plainStart = .next t ∧ t.halted = false) ∧ ({ plainStart with halted := true } : State).halted = true :=
  ⟨⟨_, rfl, rfl⟩, ⟨_, rfl, rfl⟩, rfl⟩
theorem witness_BrkHalts : (start [0x00]).Permissive ∧ (start [0x00]).halted = false ∧ (start [0x00]).ppu.nmiPending = false ∧
    (busRead (start [0x00]).pc (start [0x00])).1 = 0x00 := ⟨⟨rfl, rfl⟩, rfl, rfl, by decide +kernel⟩

/-- Both sides of a branch. -/
theorem witness_Branches : plainStart.Permissive ∧ (!plainStart.flagC) = true ∧ plainStart.flagC = false ∧
    ({ plainStart with p := 0x25 } : State).flagC = true := ⟨⟨rfl, rfl⟩, rfl, rfl, rfl⟩

/-- RAM addresses at both ends, equal and different modulo 0x800. -/
theorem witness_RamIsMirrored : plainStart.MemoryWf ∧ (0x0000#16).toNat < 0x2000 ∧ (0x1FFF#16).toNat < 0x2000 ∧
    (0x1FFF#16).toNat % 0x800 = (0x07FF#16).toNat % 0x800 ∧ (0x0000#16).toNat % 0x800 ≠ (0x1FFF#16).toNat % 0x800 :=
  ⟨witness_memoryWf, by decide, by decide, by decide, by decide⟩

/-- A strict machine with this code at 0x8000. -/
def strictStart (code : List Byte) : State :=
  { start code with cfg := { cart code with strict := true }, pc := 0x8000 }

/-- The invalid accesses at both ends of the window, in a permissive and in a strict machine. -/
theorem witness_PpuRegistersAreMirrored_invalid : plainStart.cfg.strict = false ∧ (strictStart []).cfg.strict = true ∧
    (strictStart []).stop = none ∧ (0x2000#16).toNat % 8 ∈ [0, 1, 3, 5, 6] ∧ (0x3FFE#16).toNat % 8 ∈ [0, 1, 3, 5, 6] ∧
    (0x2002#16).toNat % 8 = 2 ∧ (0x3FFA#16).toNat % 8 = 2 := by decide +kernel
/-- PPU addresses at both ends, one for each of the eight registers. -/
theorem witness_PpuRegistersAreMirrored : ∀ k < 8, ∃ a b : Addr, 0x2000 ≤ a.toNat ∧ a.toNat < 0x2008 ∧ a.toNat % 8 = k ∧
    0x3FF8 ≤ b.toNat ∧ b.toNat < 0x4000 ∧ b.toNat % 8 = k := by
  intro k hk
  refine ⟨BitVec.ofNat 16 (0x2000 + k), BitVec.ofNat 16 (0x3FF8 + k), ?_⟩
  simp only [BitVec.toNat_ofNat]
  omega
/-- 0x2000 and 0x3FF8 write Control, 0x2001 Mask, 0x2005 and 0x3FFD Scroll with the latch either way. -/
theorem witness_PpuRegisterWrites : 0x2000 ≤ (0x3FF8#16).toNat ∧ (0x3FF8#16).toNat % 8 = 0 ∧ (0x2001#16).toNat % 8 = 1 ∧
    (0x3FFD#16).toNat % 8 = 5 ∧ plainStart.ppu.scrollYNext = false ∧
    (busWrite 0x2005 0x11 plainStart).ppu.scrollYNext = true := by decide +kernel
theorem witness_StatusRead : 0x2000 ≤ (0x3FFA#16).toNat ∧ (0x3FFA#16).toNat < 0x4000 ∧ (0x3FFA#16).toNat % 8 = 2 := by decide
theorem witness_AddressPort : 0x2000 ≤ (0x2006#16).toNat ∧ (0x3FFE#16).toNat < 0x4000 ∧ (0x3FFE#16).toNat % 8 = 6 ∧
    plainStart.ppu.addrHiNext = true ∧ (busWrite 0x2006 0x3F plainStart).ppu.addrHiNext = false := by decide +kernel
/-- The data port's address at both ends of each range. -/
theorem witness_DataPortRead : (0x2007#16).toNat % 8 = 7 ∧ (0x3FFF#16).toNat % 8 = 7 ∧
    [0x0000#14, 0x1FFF#14, 0x2000#14, 0x2FFF#14, 0x3000#14, 0x3EFF#14, 0x3F00#14, 0x3FFF#14].map
      (fun a => ({ plainStart.ppu with addrValue := a } : Ppu).addrValue.toNat) =
      [0, 0x2000 - 1, 0x2000, 0x3000 - 1, 0x3000, 0x3F00 - 1, 0x3F00, 0x4000 - 1] := by decide +kernel
theorem witness_DataPortWrite : plainStart.MemoryWf ∧ 0x2000 ≤ (0x2007#16).toNat ∧ (0x2007#16).toNat < 0x4000 ∧
    (0x2007#16).toNat % 8 = 7 := ⟨witness_memoryWf, by decide, by decide, by decide⟩
theorem witness_MirroringAndPaletteAlias : 0x2000 ≤ (0x2000#14).toNat ∧ (0x2FFF#14).toNat < 0x3000 ∧ 0x3F00 ≤ (0x3F00#14).toNat ∧
    (0x3F10#14).toNat % 4 = 0 ∧ (0x3F11#14).toNat % 4 ≠ 0 := by decide
theorem witness_OamPort : plainStart.MemoryWf ∧ (0x2003#16).toNat % 8 = 3 ∧ (0x3FFC#16).toNat % 8 = 4 ∧ (0x3FFC#16).toNat < 0x4000 :=
  ⟨witness_memoryWf, by decide, by decide, by decide⟩
/-- A page of RAM at each end, and one outside RAM. -/
theorem witness_OamDmaCopies : plainStart.MemoryWf ∧ (0x00#8).toNat < 0x20 ∧ (0x1F#8).toNat < 0x20 ∧ ¬ (0x20#8).toNat < 0x20 :=
  ⟨witness_memoryWf, by decide, by decide, by decide⟩
/-- A strobe write of each kind; the reads after 7 and after 8 others, on either port. -/
theorem witness_JoypadProtocol : (0x01#8).getLsbD 0 = true ∧ (0x00#8).getLsbD 0 = false ∧
    ∀ k ∈ [7, 8], (Joypad.read ⟨0x00, false, k⟩).1.toNat = (if k < 8 then 0 else 1) := by decide +kernel

/-- The ends of ROM, the APU stub and the unmapped range; both PRG sizes. -/
theorem witness_RomStubAndUnmapped : 0x8000 ≤ (0x8000#16).toNat ∧ 0x8000 ≤ (0xFFFF#16).toNat ∧ 0x4000 ≤ (0x4000#16).toNat ∧
    (0x4015#16).toNat ≤ 0x4015 ∧ (0x4017#16).toNat ≤ 0x4017 ∧ 0x4018 ≤ (0x4018#16).toNat ∧ (0x7FFF#16).toNat ≤ 0x7FFF ∧
    plainStart.cfg.prgSize = .k32 ∧ ({ plainStart.cfg with prgSize := .k16 } : Config).prgSize = .k16 ∧
    plainStart.cfg.strict = false := by decide +kernel

/-- A strict machine; operand bytes that are read in a window of invalid reads: the first, the second, each end. -/
theorem witness_StrictMachineStops_operands : (strictStart []).cfg.strict = true ∧ (strictStart []).stop = none ∧
    ((.ldaZp, .zp) ∈ readForms ∧ (.staAbs, .abs) ∈ storeForms ∧ (.sloAbx, .abx) ∈ modifyForms) ∧
    operandStop .zp 0x2000 = some ⟨.readWriteOnly, 0x2000⟩ ∧ operandStop .izy 0x3FFE = some ⟨.readWriteOnly, 0x3FFE⟩ ∧
    operandStop .abs 0x2002 = some ⟨.readWriteOnly, 0x2003⟩ ∧ operandStop .abx 0x1FFF = some ⟨.readWriteOnly, 0x2000⟩ ∧
    operandStop .aby 0x3FFD = some ⟨.readWriteOnly, 0x3FFD⟩ := by decide +kernel
/-- Its stores and reads at each end of ROM, of the status registers and of the write-only ones, the operand bytes read before. -/
theorem witness_StrictMachineStops :
    (strictStart [0x00, 0x80]).cfg.strict = true ∧ (effAddr .abs (strictStart [0x00, 0x80])).2.stop = none ∧
    (effAddr .abs (strictStart [0x00, 0x80])).1 = 0x8000 ∧ (effAddr .abs (strictStart [0xFE, 0x3F])).1 = 0x3FFE ∧
    writeStop 0x8000 = some ⟨.writeRom, 0x8000⟩ ∧ writeStop 0xFFFF = some ⟨.writeRom, 0xFFFF⟩ ∧
    writeStop 0x2002 = some ⟨.writeStatus, 0x2002⟩ ∧ writeStop 0x3FFA = some ⟨.writeStatus, 0x3FFA⟩ ∧
    readStop 0x2000 = some ⟨.readWriteOnly, 0x2000⟩ ∧ readStop 0x3FFE = some ⟨.readWriteOnly, 0x3FFE⟩ ∧
    (readStop 0x2006).or (writeStop 0x2006) = some ⟨.readWriteOnly, 0x2006⟩ ∧
    (readStop 0x2002).or (writeStop 0x2002) = some ⟨.writeStatus, 0x2002⟩ := by decide +kernel
/-- A jump's operand word; an indirect jump whose pointer's second byte, wrapped in its page, is a write-only register; both. -/
theorem witness_StrictMachineStops_jumps : wordStop 0x2002 = some ⟨.readWriteOnly, 0x2003⟩ ∧
    wordStop 0x3FFE = some ⟨.readWriteOnly, 0x3FFE⟩ ∧ (busRead16 0x8000 (strictStart [0xFF, 0x20])).2.stop = none ∧
    (busRead16 0x8000 (strictStart [0xFF, 0x20])).1 = 0x20FF ∧
    (readStop 0x20FF).or (readStop (BitVec.ofNat 16 (0x20FF / 256 * 256 + (0x20FF + 1) % 256))) = some ⟨.readWriteOnly, 0x2000⟩ ∧
    (readStop 0x2001).or (readStop 0x2002) = some ⟨.readWriteOnly, 0x2001⟩ := by decide +kernel
/-- A taken branch whose offset lies in a write-only register, and a fetch from one, with the handler there too. -/
theorem witness_StrictMachineStops_fetch :
    (!({ strictStart [] with pc := 0x2005 } : State).flagC) = true ∧ readStop 0x2005 = some ⟨.readWriteOnly, 0x2005⟩ ∧
    (serviceNmi { strictStart [] with pc := 0x2005 }).pc = 0x2005 ∧ (strictStart []).halted = false ∧
    (serviceNmi { nmiDue with cfg := { Config.blank with prg := [(0x7FFB, 0x20)], strict := true } }).pc = 0x2000 := by
  decide +kernel
/-- A store to 0x4014 of the first and the last page of PPU registers; a stop that is already there. -/
theorem witness_StrictMachineStops_dma : (effAddr .abs (strictStart [0x14, 0x40])).2.stop = none ∧
    (effAddr .abs (strictStart [0x14, 0x40])).1 = 0x4014 ∧ 0x20 ≤ (0x20#8).toNat ∧ (0x3F#8).toNat < 0x40 ∧
    ({ strictStart [] with stop := some ⟨.writeRom, 0x8000⟩ } : State).stop = some ⟨.writeRom, 0x8000⟩ := by decide +kernel

/-- The clock inside a scanline, on its last cycle, and at scanlines 240, 261 and 0. -/
theorem witness_PpuClock : (0 : Nat) < 341 ∧ 339 + 1 < 341 ∧ 341 ≤ 340 + 1 ∧ 341 ≤ 0 + 341 ∧ 240 + 1 = 241 ∧ 262 ≤ 261 + 1 ∧
    0 + 1 ≠ 241 ∧ 0 + 1 < 262 := by decide
/-- A machine one cycle before vblank with the NMI enabled, with and without a pair of button sets to come. -/
def beforeVblank (input : List (Byte × Byte)) : State :=
  { plainStart with input := input, ppu := { plainStart.ppu with ctrl := 0x80, scanline := 240, cycle := 340 } }
theorem witness_FrameEvent : (beforeVblank []).ppu.cycle < 341 ∧ (beforeVblank []).ppu.scanline = 240 ∧
    341 ≤ (beforeVblank []).ppu.cycle + 3 * 1 ∧ (beforeVblank []).ppu.generateNmi = true ∧
    (beforeVblank []).ppu.nmiPending = false ∧ (beforeVblank []).input = [] ∧
    (beforeVblank [(0x01, 0x00)]).input = [(0x01, 0x00)] ∧ plainStart.ppu.scanline ≠ 240 := by decide +kernel

/-- A sprite opaque at a pixel with none before it; a pixel with none at all; the last tile entry and its last pixel; a pixel
above a sprite, and one right of it; a sprite's three opaque values. -/
theorem witness_LowestSpriteWins : spritePixel picture.cfg picture.ppu 0 4 9 ≠ 0 ∧
    (∀ n < 64, spritePixel picture.cfg picture.ppu n 0 0 = 0) ∧ 29 < 30 ∧ 31 < 32 ∧ 7 < 8 ∧
    3 < (picture.ppu.oam.read 0).toNat ∧ (picture.ppu.oam.read 3).toNat + 8 ≤ 10 ∧ 1 ≤ 3 ∧ 63 < 64 := by decide +kernel
/-- Two machines that differ in what the frame does not depend on. -/
theorem witness_FrameDependsOnlyOn : picture.ppu.ctrl.getLsbD 3 = ({ picture.ppu with mask := 0xFF, ctrl := 0x80 } : Ppu).ctrl.getLsbD 3 ∧
    picture.ppu.ctrl.getLsbD 4 = ({ picture.ppu with mask := 0xFF, ctrl := 0x80 } : Ppu).ctrl.getLsbD 4 := by decide +kernel
/-- Lengths of an image with a trainer, and of one without. -/
theorem witness_INesImageParses : (0x00#8).getLsbD 2 = false ∧ (0x00#8).getLsbD 3 = false ∧
    (List.replicate 8 (0 : Byte)).length = 8 ∧
    (List.replicate 512 (0 : Byte)).length = (if (0x05#8).getLsbD 2 then 512 else 0) ∧
    ([] : List Byte).length = (if (0x01#8).getLsbD 2 then 512 else 0) ∧
    (List.replicate 16384 (0 : Byte)).length = (0x01#8).toNat * 16384 ∧
    (List.replicate 8192 (0 : Byte)).length = (0x01#8).toNat * 8192 :=
  ⟨by decide, by decide, List.length_replicate, by rw [List.length_replicate]; rfl, rfl, by rw [List.length_replicate]; rfl,
    by rw [List.length_replicate]; rfl⟩

/-- One image for each FormatError, and one that parses and is not admitted. -/
theorem witness_INesImageParses_errors : ([] : List Byte).take 4 ≠ [0x4E, 0x45, 0x53, 0x1A] ∧
    parseINes [] = .error .magic ∧ parseINes [0x4E, 0x45, 0x53, 0x1A, 0, 0, 0, 0x08] = .error .nes2 ∧
    parseINes [0x4E, 0x45, 0x53, 0x1A, 1, 1, 0, 0] = .error .length ∧
    parseINes ([0x4E, 0x45, 0x53, 0x1A] ++ List.replicate 12 0) = .ok ⟨[], [], 0, .horizontal⟩ ∧
    ([] : List Byte).length ≠ 0x4000 ∧ ([] : List Byte).length ≠ 0x8000 := by decide +kernel
/-- A header for 16 KB of PRG and 8 KB of CHR with vertical mirroring, then zeros. -/
def zeroImage (n : Nat) : List Byte :=
  0x4E :: 0x45 :: 0x53 :: 0x1A :: 0x01 :: 0x01 :: 0x01 :: 0x00 :: List.replicate n 0
/-- An image that is admitted. -/
theorem witness_INesImageParses_admitted : ∃ im, parseINes (zeroImage 0x6008) = .ok im ∧ im.mapper = 0 ∧
    (im.prg.length = 0x4000 ∨ im.prg.length = 0x8000) ∧ im.chr.length = 0x2000 ∧ im.mirroring ≠ .fourScreen := by
  have h1 (n) : headerPrgOffset (zeroImage n) = 16 := by simp [headerPrgOffset, headerByte, bitOf, zeroImage]
  have h2 (n) : headerPrgBytes (zeroImage n) = 0x4000 := by simp [headerPrgBytes, headerByte, zeroImage]
  have h3 (n) : headerChrBytes (zeroImage n) = 0x2000 := by simp [headerChrBytes, headerByte, zeroImage]
  have h4 (n) : ¬ (headerByte (zeroImage n) 7 >>> 2) &&& 3#8 ≠ 0#8 := by simp [headerByte, zeroImage]
  have h5 (n) : ¬ (zeroImage n).take 4 ≠ [0x4E, 0x45, 0x53, 0x1A] := by simp [zeroImage]
  have h6 (n) : (zeroImage n).length = n + 8 := by simp [zeroImage]
  have hp : parseINes (zeroImage 0x6008) = .ok
      { prg := ((zeroImage 0x6008).drop 16).take 0x4000, chr := ((zeroImage 0x6008).drop (16 + 0x4000)).take 0x2000
        mapper := headerMapper (zeroImage 0x6008), mirroring := headerMirroring (zeroImage 0x6008) } := by
    unfold parseINes
    rw [if_neg (h5 _), if_neg (h4 _), if_neg (by rw [h1, h2, h3, h6]; decide), h1, h2, h3]
  have h7 (n) : headerMapper (zeroImage n) = 0 := by simp [headerMapper, headerByte, zeroImage]
  have h8 (n) : headerMirroring (zeroImage n) ≠ .fourScreen := by simp [headerMirroring, headerByte, bitOf, zeroImage]
  refine ⟨_, hp, h7 0x6008, .inl ?_, ?_, h8 0x6008⟩
  · rw [List.length_take, List.length_drop, h6]; decide
  · rw [List.length_take, List.length_drop, h6]; decide

/-- Memory contents that powerOn may take: none listed, and the last byte of each. -/
theorem witness_ResetMeetsTheInvariants :
    Memory.wf [] = true ∧ Memory.below 0x800 [] = true ∧ Memory.wf [(0x000, 0x01), (0x7FF, 0xFF)] = true ∧
    Memory.below 0x800 [(0x000, 0x01), (0x7FF, 0xFF)] = true ∧ Memory.wf [(31, 0x0F)] = true ∧
    Memory.below 32 [(31, 0x0F)] = true ∧ Memory.wf [(255, 0xF0)] = true ∧ Memory.below 256 [(255, 0xF0)] = true := by decide

/-- A state with the invariants, and a step of it that answers. -/
theorem witness_StepKeepsInv : (start [0xEA]).Inv ∧ ∃ t, step (start [0xEA]) = .next t :=
  ⟨⟨⟨rfl, rfl⟩, ⟨⟨rfl, rfl⟩, ⟨rfl, rfl⟩, ⟨rfl, rfl⟩, ⟨rfl, rfl⟩⟩, ⟨by decide +kernel, by decide +kernel⟩,
    ⟨by decide +kernel, by decide +kernel⟩, .inl rfl, ⟨by decide +kernel, by decide +kernel⟩,
    ⟨by decide +kernel, by decide +kernel⟩, rfl⟩, _, rfl⟩
theorem witness_StepKeepsTheClocksLocked : (start [0xEA]).ClockLocked ∧ ∃ t, step (start [0xEA]) = .next t := ⟨⟨rfl, rfl⟩, _, rfl⟩

end Sys2Proof.Tests
end

section
/-! PROOFS of the family 10_state.md. One principle carries a property through a step (`StepClosed.keeps_step`): a step keeps
what the NMI poll, the moves of an instruction, a tick, a record and BRK keep. The configuration (O38) and the invariant (O58)
are two uses of it. -/
namespace Sys2Proof

/-- Canonical form, inside a size of `n` bytes: a conjunct of `State.MemoryWf`. -/
def Memory.Fits (n : Nat) (m : Memory) : Prop := m.wf = true ∧ m.below n = true

theorem Memory.Fits.write {n a : Nat} {m : Memory} (h : m.Fits n) (ha : a < n) (v : Byte) : (m.write a v).Fits n :=
  ⟨Memory.wf_write m a v h.1, Memory.below_write v ha h.2⟩

end Sys2Proof

namespace Sys2Proof.Machine

/-! ### Carrying a property through a step -/

/-- The property is kept by everything a step is made of (40_cpu_step_addressing.md R160): the NMI poll, the moves of an
instruction, a Bus tick, a record for the host, and BRK. -/
structure StepClosed (P : State → Prop) : Prop where
  poll : ∀ {s : State}, P s → P (pollNmi s)
  moves : ∀ {s t : State}, Moves s t → P s → P t
  tick : ∀ {s : State} (n : Nat), P s → P (busTick n s)
  record : ∀ {s : State} (e : Event), P s → P (emit e s)
  halt : ∀ {s : State}, P s → P (brkRule s)

/-- The pushes of the NMI entry, and I set, are moves (60_exceptions.md R460). -/
theorem moves_nmiPushes (s : State) : Moves s ((push (nmiImage s.p) (push16 s.pc s)).setFlag bitI true) :=
  ((moves_push16 _ s).trans (moves_push _ _)).trans (moves_setFlag bitI _ _ (by decide) (by decide) (by decide))

theorem StepClosed.keeps_nmiEntry {P : State → Prop} (c : StepClosed P) {s : State} (h : P s) : P (nmiEntry s) :=
  c.moves ((moves_read16 0xFFFA#16 _).trans (moves_setPc _ _)) (c.tick 2 (c.moves (moves_nmiPushes s) h))

theorem StepClosed.keeps_serviceNmi {P : State → Prop} (c : StepClosed P) {s : State} (h : P s) : P (serviceNmi s) := by
  unfold serviceNmi
  split_ifs
  · exact c.keeps_nmiEntry (c.poll h)
  · exact c.poll h

theorem StepClosed.keeps_exec {P : State → Prop} (c : StepClosed P) {i : Instr} {s t : State} (h : P s)
    (hx : exec i s = .next t) : P t := by
  obtain ⟨-, ⟨-, rfl⟩ | ⟨-, hm⟩⟩ := exec_next hx
  · exact c.halt h
  · exact c.moves hm h

theorem StepClosed.keeps_retire {P : State → Prop} (c : StepClosed P) (i : Instr) (bytes : List Byte) {s : State}
    (h : P s) : P (retire i bytes s) := c.record _ (c.tick _ h)

/-- What every part of a step keeps, the step keeps. -/
theorem StepClosed.keeps_step {P : State → Prop} (c : StepClosed P) {s t : State} (h : P s) (hs : step s = .next t) :
    P t := by
  obtain ⟨-, i, bytes, u, -, hx, -, hend⟩ := step_next hs
  have hu : P u := c.keeps_exec (c.moves ((Moves.read _ _).trans (moves_setPc _ _)) (c.keeps_serviceNmi h)) hx
  obtain ⟨-, rfl⟩ | ⟨-, rfl⟩ := hend
  · exact hu
  · exact c.keeps_retire i bytes hu

/-- A step that answers leaves no stop behind (60_exceptions.md R455). -/
theorem step_stop {s t : State} (h : step s = .next t) : t.stop = none := by
  obtain ⟨-, i, bytes, u, -, hx, -, ⟨-, rfl⟩ | ⟨-, rfl⟩⟩ := step_next h
  · exact (exec_next hx).1
  · exact (busTick_ticked i.cycles u).stop.trans (exec_next hx).1

/-! ### BRK and the configuration -/

/-- The halted bit after an instruction: BRK sets it, every other instruction keeps it (10_state.md R28). -/
theorem exec_halted {i : Instr} {s t : State} (h : exec i s = .next t) :
    t.halted = true ↔ s.halted = true ∨ i = .brk := by
  obtain ⟨-, ⟨rfl, rfl⟩ | ⟨hi, hm⟩⟩ := exec_next h
  · simp
  · rw [hm.keeps.1]; simp [hi]

theorem step_of_halted {s : State} (h : s.halted = true) : step s = .fault .halted := if_pos h

/-- Settles O9: `exec` answers by BRK or by moves, and moves keep the halted bit. -/
theorem onlyBrkHalts : Obligations.OnlyBrkHalts := ⟨fun _ _ _ => exec_halted, fun _ => step_of_halted⟩

theorem stepClosed_cfg (c : Config) : StepClosed (fun s => s.cfg = c) where
  poll h := h
  moves m h := by
    obtain ⟨-, -, hc, -⟩ := m.keeps
    exact hc.trans h
  tick n h := (busTick_ticked n _).cfg.trans h
  record _ h := h
  halt h := h

/-- Settles O38: no part of a step changes the configuration. -/
theorem configurationNeverChanges : Obligations.ConfigurationNeverChanges :=
  fun s _ => (stepClosed_cfg s.cfg).keeps_step rfl

/-! ### The PPU's clock -/

/-- What the next scanline is (47_ppu_registers.md R351 to R353): the first of vblank, the first of a frame, or another. -/
theorem nextScanline_cases {p : Ppu} (h : p.scanline < 262) :
    (p.scanline = 240 ∧
      p.nextScanline.1 = Ppu.scanline241 { p with cycle := p.cycle - 341, scanline := p.scanline + 1 }) ∨
    (p.scanline = 261 ∧
      p.nextScanline.1 = Ppu.scanline262 { p with cycle := p.cycle - 341, scanline := p.scanline + 1 }) ∨
    (p.scanline ≠ 240 ∧ p.scanline < 261 ∧
      p.nextScanline.1 = { p with cycle := p.cycle - 341, scanline := p.scanline + 1 }) := by
  unfold Ppu.nextScanline
  dsimp only
  by_cases h1 : p.scanline = 240
  · left; simp [h1, Ppu.scanline241]
  · by_cases h2 : p.scanline = 261
    · right; left; simp [h2]
    · have h3 : ¬ 262 ≤ p.scanline + 1 := by omega
      right; right
      exact ⟨h1, by omega, by simp [h1, h3]⟩

/-- `q` is `p` with `k` scanlines taken off its cycle count: the position moved on, the memories as they were. -/
structure ScanlinesRun (k : Nat) (p q : Ppu) : Prop where
  cycle : q.cycle = p.cycle - 341 * k
  scanline : q.scanline = (p.scanline + k) % 262
  vram : q.vram = p.vram
  palette : q.palette = p.palette
  oam : q.oam = p.oam

theorem nextScanline_run {p : Ppu} (h : p.scanline < 262) : ScanlinesRun 1 p p.nextScanline.1 := by
  rcases nextScanline_cases h with ⟨hs, e⟩ | ⟨hs, e⟩ | ⟨-, hs, e⟩ <;> rw [e]
  · exact ⟨rfl, by simp [Ppu.scanline241, hs], rfl, rfl, rfl⟩
  · exact ⟨rfl, by simp [Ppu.scanline262, hs], rfl, rfl, rfl⟩
  · have hl : p.scanline + 1 < 262 := by omega
    exact ⟨rfl, (Nat.mod_eq_of_lt hl).symm, rfl, rfl, rfl⟩

theorem runScanlines_run : ∀ (k : Nat) {p : Ppu}, p.scanline < 262 → ScanlinesRun k p (Ppu.runScanlines k p).1
  | 0, _, h => ⟨rfl, (Nat.mod_eq_of_lt h).symm, rfl, rfl, rfl⟩
  | k + 1, p, h => by
    have h1 := nextScanline_run h
    have h2 := runScanlines_run k (p := p.nextScanline.1) (by rw [h1.scanline]; omega)
    refine ⟨h2.cycle.trans ?_, h2.scanline.trans ?_, h2.vram.trans h1.vram, h2.palette.trans h1.palette,
      h2.oam.trans h1.oam⟩
    · rw [h1.cycle]; omega
    · rw [h1.scanline]; omega

theorem tick_run {p : Ppu} (n : Nat) (h : p.scanline < 262) :
    ScanlinesRun ((p.cycle + n) / 341) { p with cycle := p.cycle + n } (p.tick n).1 := runScanlines_run _ h

/-- The cycle after a tick (47_ppu_registers.md R351). -/
theorem tick_cycle {p : Ppu} (n : Nat) (h : p.scanline < 262) : (p.tick n).1.cycle = (p.cycle + n) % 341 := by
  rw [(tick_run n h).cycle]; dsimp only; omega

/-- The scanline after a tick (47_ppu_registers.md R351, R353). -/
theorem tick_scanline {p : Ppu} (n : Nat) (h : p.scanline < 262) :
    (p.tick n).1.scanline = (p.scanline + (p.cycle + n) / 341) % 262 := (tick_run n h).scanline

/-! ### The PPU's part of the invariant -/

/-- What holds of the PPU on every scanline, also inside a tick: the clauses of `State.Inv` on the scanline, VBLANK, the pending
NMI and Status. -/
structure Ppu.Timed (p : Ppu) : Prop where
  scanline : p.scanline < 262
  vblank : p.VblankRange
  status : p.StatusShape

/-- The PPU's clauses of `State.Inv`. -/
structure Ppu.Sound (p : Ppu) : Prop where
  timed : p.Timed
  cycle : p.cycle < 341
  vram : p.vram.Fits 0x800
  palette : p.palette.Fits 32
  oam : p.oam.Fits 256

theorem Ppu.vblank_of_status_zero {p : Ppu} (h : p.status = 0#8) : p.vblank = false := by
  unfold Ppu.vblank
  rw [h]
  rfl

/-- With Status 0 and no NMI pending, any scanline is in range. -/
theorem Ppu.VblankRange.of_quiet {p : Ppu} (hs : p.status = 0#8) (hn : p.nmiPending = false) : p.VblankRange :=
  ⟨fun e => by simp [Ppu.vblank_of_status_zero hs] at e, fun e => by simp [hn] at e⟩

/-- VBLANK and the pending NMI start on scanline 241 and end with the frame (47_ppu_registers.md R352, R353). -/
theorem Ppu.Timed.nextScanline {p : Ppu} (h : p.Timed) : p.nextScanline.1.Timed := by
  obtain ⟨hs, ⟨hv, hn⟩, hst⟩ := h
  rcases nextScanline_cases hs with ⟨e, hq⟩ | ⟨-, hq⟩ | ⟨-, e, hq⟩ <;> rw [hq]
  · have hl : 241 ≤ p.scanline + 1 := by omega
    refine ⟨by simp [Ppu.scanline241, e], ⟨fun _ => hl, fun _ => hl⟩, .inr ?_⟩
    rcases hst with h0 | h0 <;> simp only [Ppu.scanline241, h0] <;> decide
  · have h0 : putBit (putBit p.status 6 false) 7 false = 0#8 := by
      rcases hst with h0 | h0 <;> rw [h0] <;> decide
    exact ⟨Nat.zero_lt_succ _, Ppu.VblankRange.of_quiet h0 rfl, .inl h0⟩
  · exact ⟨by dsimp only; omega, ⟨fun hb => (hv hb).trans (Nat.le_succ _), fun hb => (hn hb).trans (Nat.le_succ _)⟩, hst⟩

theorem Ppu.Timed.runScanlines : ∀ (k : Nat) {p : Ppu}, p.Timed → (Ppu.runScanlines k p).1.Timed
  | 0, _, h => h
  | k + 1, _, h => Ppu.Timed.runScanlines k h.nextScanline

theorem Ppu.Sound.tick {p : Ppu} (n : Nat) (h : p.Sound) : (p.tick n).1.Sound := by
  have hr := tick_run n h.timed.scanline
  have ht : Ppu.Timed { p with cycle := p.cycle + n } := ⟨h.timed.scanline, h.timed.vblank, h.timed.status⟩
  refine ⟨ht.runScanlines _, ?_, ?_, ?_, ?_⟩
  · rw [tick_cycle n h.timed.scanline]; exact Nat.mod_lt _ (by decide)
  · rw [hr.vram]; exact h.vram
  · rw [hr.palette]; exact h.palette
  · rw [hr.oam]; exact h.oam

/-- An operation that leaves the clock, Status, the pending NMI and the memories alone. -/
theorem Ppu.Sound.of_eq {p q : Ppu} (h : p.Sound) (hst : q.status = p.status) (hs : q.scanline = p.scanline)
    (hc : q.cycle = p.cycle) (hn : q.nmiPending = p.nmiPending) (hv : q.vram = p.vram) (hp : q.palette = p.palette)
    (ho : q.oam = p.oam) : q.Sound := by
  obtain ⟨⟨h1, h2, h3⟩, h4, h5, h6, h7⟩ := h
  refine ⟨⟨by rwa [hs], ?_, ?_⟩, by rwa [hc], by rwa [hv], by rwa [hp], by rwa [ho]⟩
  · unfold Ppu.VblankRange Ppu.vblank; rw [hst, hs, hn]; exact h2
  · unfold Ppu.StatusShape; rw [hst]; exact h3

theorem Ppu.Sound.poll {p : Ppu} (h : p.Sound) : Ppu.Sound { p with nmiPending := false } :=
  ⟨⟨h.timed.scanline, ⟨h.timed.vblank.1, nofun⟩, h.timed.status⟩, h.cycle, h.vram, h.palette, h.oam⟩

/-- A Status read clears VBLANK, the one bit of Status that can be set (47_ppu_registers.md R362). -/
theorem Ppu.Sound.readStatus {p : Ppu} (h : p.Sound) : p.readStatus.2.Sound := by
  have h0 : putBit p.status 7 false = 0#8 := by
    rcases h.timed.status with e | e <;> rw [e] <;> decide
  have hq : p.readStatus.2.vblank = false := Ppu.vblank_of_status_zero h0
  refine ⟨⟨h.timed.scanline, ⟨fun hb => ?_, h.timed.vblank.2⟩, .inl h0⟩, h.cycle, h.vram, h.palette, h.oam⟩
  simp [hq] at hb

/-- A Control write makes an NMI pending only while VBLANK is set (47_ppu_registers.md R360). -/
theorem Ppu.Sound.writeCtrl {p : Ppu} (v : Byte) (h : p.Sound) : (p.writeCtrl v).Sound := by
  refine ⟨⟨h.timed.scanline, ⟨h.timed.vblank.1, fun hb => ?_⟩, h.timed.status⟩, h.cycle, h.vram, h.palette, h.oam⟩
  simp only [Ppu.writeCtrl, Bool.or_eq_true, Bool.and_eq_true] at hb
  rcases hb with hb | ⟨-, hb⟩
  · exact h.timed.vblank.2 hb
  · exact h.timed.vblank.1 hb

theorem Ppu.Sound.incAddr {p : Ppu} (h : p.Sound) : p.incAddr.Sound := h.of_eq rfl rfl rfl rfl rfl rfl rfl

theorem Ppu.Sound.writeScroll {p : Ppu} (v : Byte) (h : p.Sound) : (p.writeScroll v).Sound := by
  unfold Ppu.writeScroll
  split_ifs <;> exact h.of_eq rfl rfl rfl rfl rfl rfl rfl

theorem Ppu.Sound.writeAddr {p : Ppu} (v : Byte) (h : p.Sound) : (p.writeAddr v).Sound := by
  unfold Ppu.writeAddr
  split_ifs <;> exact h.of_eq rfl rfl rfl rfl rfl rfl rfl

theorem Ppu.Sound.writeOamData {p : Ppu} (v : Byte) (h : p.Sound) : (p.writeOamData v).Sound :=
  ⟨⟨h.timed.scanline, h.timed.vblank, h.timed.status⟩, h.cycle, h.vram, h.palette, h.oam.write p.oamAddr.isLt v⟩

theorem Ppu.Sound.foldl_writeOamData : ∀ (bytes : List Byte) {p : Ppu}, p.Sound →
    (bytes.foldl (fun p b => p.writeOamData b) p).Sound
  | [], _, h => h
  | b :: bytes, _, h => Ppu.Sound.foldl_writeOamData bytes (h.writeOamData b)

/-- A nametable address selects a byte of VRAM (47_ppu_registers.md R374). -/
theorem vramIndex_lt (m : Mirroring) {a : PpuAddr} (h : ¬ a.toNat ≤ 0x1FFF) (h' : a.toNat ≤ 0x2FFF) :
    vramIndex m a < 0x800 := by
  unfold vramIndex
  cases m <;> dsimp only <;> split_ifs <;> omega

/-- A palette address selects a byte of the palette (47_ppu_registers.md R377). -/
theorem palIndex_lt (a : PpuAddr) : palIndex a < 32 := by
  unfold palIndex
  dsimp only
  split_ifs <;> omega

theorem Ppu.Sound.writeVram {p : Ppu} {k : Nat} (hk : k < 0x800) (v : Byte) (h : p.Sound) :
    Ppu.Sound { p with vram := p.vram.write k v } :=
  ⟨⟨h.timed.scanline, h.timed.vblank, h.timed.status⟩, h.cycle, h.vram.write hk v, h.palette, h.oam⟩

theorem Ppu.Sound.writePalette {p : Ppu} {k : Nat} (hk : k < 32) (v : Byte) (h : p.Sound) :
    Ppu.Sound { p with palette := p.palette.write k v } :=
  ⟨⟨h.timed.scanline, h.timed.vblank, h.timed.status⟩, h.cycle, h.vram, h.palette.write hk v, h.oam⟩

/-! ### The joypads' part of the invariant -/

theorem Joypad.Legal.read {j : Joypad} (h : j.Legal) : j.read.2.Legal := by
  unfold Joypad.read
  split_ifs with hi hs
  · exact h
  · exact h
  · exact ⟨fun e => absurd e hs, by dsimp only; omega⟩

theorem Joypad.Legal.strobeWrite {j : Joypad} (v : Byte) (h : j.Legal) : (j.strobeWrite v).Legal := by
  unfold Joypad.strobeWrite
  by_cases hv : bitOf v 0 = true
  · exact ⟨fun _ => if_pos hv, by dsimp only; rw [if_pos hv]; omega⟩
  · exact ⟨fun e => absurd e hv, by dsimp only; rw [if_neg hv]; exact h.2⟩

/-! ### The invariant inside a step -/

/-- The invariant without its clause on `stop`: it holds also inside a step that a strict machine's access has stopped. -/
structure State.Sound (s : State) : Prop where
  bits : s.StatusBits
  ram : s.ram.Fits 0x800
  ppu : s.ppu.Sound
  joy0 : s.joy0.Legal
  joy1 : s.joy1.Legal

theorem State.inv_iff {s : State} : s.Inv ↔ s.Sound ∧ s.stop = none := by
  constructor
  · rintro ⟨hb, ⟨hr, hv, hp, ho⟩, ⟨hs, hc⟩, hvb, hst, h0, h1, hstop⟩
    exact ⟨⟨hb, hr, ⟨⟨hs, hvb, hst⟩, hc, hv, hp, ho⟩, h0, h1⟩, hstop⟩
  · rintro ⟨⟨hb, hr, ⟨⟨hs, hvb, hst⟩, hc, hv, hp, ho⟩, h0, h1⟩, hstop⟩
    exact ⟨hb, ⟨hr, hv, hp, ho⟩, ⟨hs, hc⟩, hvb, hst, h0, h1, hstop⟩

theorem State.StatusBits.of_p {s t : State} (h : s.StatusBits) (e : t.p = s.p) : t.StatusBits := by
  unfold State.StatusBits State.flagB State.flagU
  rw [e]
  exact h

theorem State.Sound.withPpu {s : State} {q : Ppu} (h : s.Sound) (hq : q.Sound) : State.Sound { s with ppu := q } :=
  ⟨h.bits, h.ram, hq, h.joy0, h.joy1⟩

theorem State.Sound.emit {s : State} (e : Event) (h : s.Sound) : (emit e s).Sound :=
  ⟨h.bits, h.ram, h.ppu, h.joy0, h.joy1⟩

theorem State.Sound.logAt {s : State} (k : LogKind) (a : Addr) (h : s.Sound) : (logAt k a s).Sound := h.emit _

theorem State.Sound.invalidAccess {s : State} (k : InvalidKind) (a : Addr) (h : s.Sound) : (invalidAccess k a s).Sound := by
  obtain ⟨hr, hp, h0, h1⟩ := invalidAccess_devices k a s
  exact ⟨h.bits.of_p (invalidAccess_cpuSame k a s).p, by rw [hr]; exact h.ram, by rw [hp]; exact h.ppu,
    by rw [h0]; exact h.joy0, by rw [h1]; exact h.joy1⟩

theorem State.Sound.ppuReadData {s : State} (h : s.Sound) : (ppuReadData s).2.Sound := by
  have hq : s.ppu.incAddr.Sound := h.ppu.incAddr
  unfold Machine.ppuReadData
  dsimp only
  split_ifs
  · exact h.withPpu (hq.of_eq rfl rfl rfl rfl rfl rfl rfl)
  · exact (h.withPpu hq).logAt _ _
  · exact h.withPpu hq

theorem State.Sound.ppuWrite {s : State} (a : PpuAddr) (v : Byte) (h : s.Sound) : (ppuWrite a v s).Sound := by
  unfold Machine.ppuWrite
  split_ifs with h1 h2
  · exact h.logAt _ _
  · exact h.withPpu (h.ppu.writeVram (vramIndex_lt _ h1 h2) v)
  · exact h.logAt _ _
  · exact h.withPpu (h.ppu.writePalette (palIndex_lt a) v)

theorem State.Sound.busRead {s : State} (a : Addr) (h : s.Sound) : (busRead a s).2.Sound := by
  rcases busRead_effect a s with e | e | e | e | e | e | e <;> rw [e]
  · exact h
  · exact h.withPpu h.ppu.readStatus
  · exact h.ppuReadData
  · exact ⟨h.bits, h.ram, h.ppu, h.joy0.read, h.joy1⟩
  · exact ⟨h.bits, h.ram, h.ppu, h.joy0, h.joy1.read⟩
  · exact h.logAt _ _
  · exact h.invalidAccess _ _

theorem State.Sound.busReadRun : ∀ (n : Nat) (a : Addr) {s : State}, s.Sound → (busReadRun n a s).2.Sound
  | 0, _, _, h => h
  | n + 1, a, _, h => State.Sound.busReadRun n (a + 1) (h.busRead a)

theorem State.Sound.oamDma {s : State} (v : Byte) (h : s.Sound) : (oamDma v s).Sound :=
  have hr := h.busReadRun 256 (wordOf 0x00 v)
  hr.withPpu (Ppu.Sound.foldl_writeOamData _ hr.ppu)

theorem State.Sound.busWrite {s : State} (a : Addr) (v : Byte) (h : s.Sound) : (busWrite a v s).Sound := by
  rcases busWrite_effect a v s with e | e | e | e | e | e | e | e | e | e | e | e | e | e <;> rw [e]
  · exact ⟨h.bits, h.ram.write (ramIndex_lt a) v, h.ppu, h.joy0, h.joy1⟩
  · exact h.withPpu (h.ppu.writeCtrl v)
  · exact h.withPpu (h.ppu.of_eq rfl rfl rfl rfl rfl rfl rfl)
  · exact h.invalidAccess _ _
  · exact h.withPpu (h.ppu.of_eq rfl rfl rfl rfl rfl rfl rfl)
  · exact h.withPpu (h.ppu.writeOamData v)
  · exact h.withPpu (h.ppu.writeScroll v)
  · exact h.withPpu (h.ppu.writeAddr v)
  · exact (h.ppuWrite _ v).withPpu (h.ppuWrite _ v).ppu.incAddr
  · exact h.oamDma v
  · exact ⟨h.bits, h.ram, h.ppu, h.joy0.strobeWrite v, h.joy1.strobeWrite v⟩
  · exact h
  · exact h.logAt _ _
  · exact h.invalidAccess _ _

/-- BREAK and BREAK2 stay when a flag is set, and are 0 and 1 after a pull (10_state.md R27). -/
theorem State.Sound.setP {s : State} {p : Byte} (h : s.Sound)
    (hp : (bitOf p bitB = bitOf s.p bitB ∧ bitOf p bitU = bitOf s.p bitU) ∨ (bitOf p bitB = false ∧ bitOf p bitU = true)) :
    (s.setP p).Sound := by
  refine ⟨?_, h.ram, h.ppu, h.joy0, h.joy1⟩
  rcases hp with ⟨hb, hu⟩ | hbu
  · exact ⟨hb.trans h.bits.1, hu.trans h.bits.2⟩
  · exact hbu

theorem Moves.sound {s t : State} (m : Moves s t) : s.Sound → t.Sound := by
  induction m with
  | refl => exact id
  | trans _ _ ih ik => exact fun h => ik (ih h)
  | read a s => exact fun h => h.busRead a
  | write a v s => exact fun h => h.busWrite a v
  | regs => exact fun h => ⟨h.bits, h.ram, h.ppu, h.joy0, h.joy1⟩
  | flags s p hp => exact fun h => h.setP hp

theorem State.Sound.busTick {s : State} (n : Nat) (h : s.Sound) : (busTick n s).Sound := by
  have ht := busTick_ticked n s
  obtain ⟨h0, h1⟩ := busTick_joypads n s
  exact ⟨h.bits.of_p ht.p, by rw [ht.ram]; exact h.ram, by rw [ht.ppu]; exact h.ppu.tick _, by rw [h0]; exact h.joy0,
    by rw [h1]; exact h.joy1⟩

theorem stepClosed_sound : StepClosed State.Sound where
  poll h := h.withPpu h.ppu.poll
  moves m h := m.sound h
  tick n h := h.busTick n
  record e h := h.emit e
  halt h := ⟨h.bits, h.ram, h.ppu, h.joy0, h.joy1⟩

/-- Settles O58: every part of a step keeps the invariant but for `stop`, and a step that answers leaves no stop. -/
theorem stepKeepsInv : Obligations.StepKeepsInv := fun _ _ h hs =>
  State.inv_iff.mpr ⟨stepClosed_sound.keeps_step (State.inv_iff.mp h).1 hs, step_stop hs⟩

/-! ### Reset and power-on -/

/-- The CPU reset in closed form: its vector is in PRG-ROM (70_reset_and_hazards.md R491). -/
theorem cpuReset_eq (s : State) : cpuReset s = { s with
    a := 0x00, x := 0x00, y := 0x00, sp := 0xFD, p := 0x24, halted := false, stop := none
    pc := prgVector s.cfg 0xFFFC } := by
  unfold cpuReset
  rw [busRead16_prg _ (by decide) (by decide)]
  rfl

theorem reset_eq_powerOn : State.reset = powerOn Config.blank [] [] [] [] [] := by
  rw [powerOn, cpuReset_eq]
  rfl

/-- Settles O54: `State.reset` is the power-on of the blank cartridge, and every other value is written in it. -/
theorem resetState : Obligations.ResetState :=
  ⟨⟨rfl, rfl, rfl, rfl⟩, rfl, rfl, rfl, rfl,
    ⟨rfl, rfl, rfl, rfl, rfl, rfl, rfl, rfl, rfl, rfl, rfl, rfl, rfl⟩, rfl, rfl, reset_eq_powerOn⟩

theorem ppuPowerOn_sound {vram palette oam : Memory} (hv : vram.Fits 0x800) (hp : palette.Fits 32) (ho : oam.Fits 256) :
    (Ppu.powerOn vram palette oam).Sound :=
  ⟨⟨Nat.zero_lt_succ _, Ppu.VblankRange.of_quiet rfl rfl, .inl rfl⟩, Nat.zero_lt_succ _, hv, hp, ho⟩

theorem joypadPowerOn_legal : Joypad.powerOn.Legal := ⟨nofun, Nat.zero_le _⟩

theorem powerOn_inv (cfg : Config) {ram vram palette oam : Memory} (input : List (Byte × Byte)) (hr : ram.Fits 0x800)
    (hv : vram.Fits 0x800) (hp : palette.Fits 32) (ho : oam.Fits 256) : (powerOn cfg ram vram palette oam input).Inv := by
  rw [powerOn, cpuReset_eq]
  have hbits : bitOf 0x24#8 bitB = false ∧ bitOf 0x24#8 bitU = true := by decide
  exact State.inv_iff.mpr ⟨⟨hbits, hr, ppuPowerOn_sound hv hp ho, joypadPowerOn_legal, joypadPowerOn_legal⟩, rfl⟩

/-- At power-on the clocks stand at 0 (10_state.md R50). -/
theorem powerOn_clockLocked (cfg : Config) (ram vram palette oam : Memory) (input : List (Byte × Byte)) :
    (powerOn cfg ram vram palette oam input).ClockLocked := by
  rw [powerOn, cpuReset_eq]
  constructor <;> simp [constructed, Ppu.powerOn]

/-- Settles O60: the power-on of any cartridge, of which `State.reset` is the case of the blank one. -/
theorem resetMeetsTheInvariants : Obligations.ResetMeetsTheInvariants := by
  refine ⟨fun cfg ram vram palette oam input h1 h2 h3 h4 h5 h6 h7 h8 =>
    ⟨powerOn_inv cfg input ⟨h1, h2⟩ ⟨h3, h4⟩ ⟨h5, h6⟩ ⟨h7, h8⟩, powerOn_clockLocked cfg ram vram palette oam input⟩, ?_⟩
  rw [reset_eq_powerOn]
  exact ⟨powerOn_inv _ _ ⟨rfl, rfl⟩ ⟨rfl, rfl⟩ ⟨rfl, rfl⟩ ⟨rfl, rfl⟩, powerOn_clockLocked _ _ _ _ _ _⟩

end Sys2Proof.Machine
end

section
/-! PROOFS of the family 20_memory.md. The Bus by region: RAM, the PPU register window (its one dependence on the address before
mirroring is the InvalidAccess), PRG-ROM, the APU stub and the unmapped addresses; and the tick, which tells the host of a frame
exactly when it raises the NMI. -/
namespace Sys2Proof.Machine

/-! ### RAM -/

/-- Settles O35: the index of an access is its address modulo 0x800, and a read after a write is `Memory.read_write`. -/
theorem ramIsMirrored : Obligations.RamIsMirrored := by
  rintro a b v s ⟨⟨hw, -⟩, -⟩ ha hb
  have hread (t : State) : busRead b t = (t.ram.read (b.toNat % 0x800), t) := by rw [busRead_of_lt b t hb, ramIndex_eq]
  have hwrite : busWrite a v s = { s with ram := s.ram.write (a.toNat % 0x800) v } := by
    rw [busWrite_of_lt a v s ha, ramIndex_eq]
  rw [hwrite, hread, hread]
  exact ⟨rfl, Memory.read_write _ _ _ _ hw, rfl, by rw [Memory.read_write _ _ _ _ hw, if_pos rfl]⟩

/-! ### An InvalidAccess, permissive and strict (60_exceptions.md R455) -/

theorem invalidAccess_permissive (k : InvalidKind) (a : Addr) {s : State} (h : s.cfg.strict = false) :
    invalidAccess k a s = { s with events := .log (.invalid k) a :: s.events } := by
  unfold invalidAccess
  rw [h]
  rfl

theorem invalidAccess_first_stop (k : InvalidKind) (a : Addr) {s : State} (h : s.cfg.strict = true) (hs : s.stop = none) :
    invalidAccess k a s = { s with stop := some ⟨k, a⟩ } := by
  rw [invalidAccess_strict k a s h, hs]
  rfl

/-! ### The PPU register window -/

/-- A read of a register that cannot be read (20_memory.md R78): neither Status, nor OAM data, nor the data port. -/
theorem busRead_writeOnly {a : Addr} (s : State) (h : 0x2000 ≤ a.toNat) (h' : a.toNat < 0x4000)
    (hk : a.toNat % 8 ∈ [0, 1, 3, 5, 6]) : busRead a s = (0x00, invalidAccess .readWriteOnly a s) := by
  have hr := ppuReg_toNat a h h'
  rw [busRead_ppu s h h']
  unfold ppuRegRead
  generalize a.toNat % 8 = k at hk hr
  rw [hr]
  fin_cases hk <;> rfl

/-- A write of the Status register (20_memory.md R79). -/
theorem busWrite_status {a : Addr} (v : Byte) (s : State) (h : 0x2000 ≤ a.toNat) (h' : a.toNat < 0x4000)
    (hk : a.toNat % 8 = 2) : busWrite a v s = invalidAccess .writeStatus a s := by
  rw [busWrite_ppu v s h h']
  unfold ppuRegWrite
  rw [ppuReg_of_mod h h' hk]
  rfl

/-- Two addresses of the window that select one register (20_memory.md R77). -/
structure SameRegister (a b : Addr) : Prop where
  lo : 0x2000 ≤ a.toNat
  hi : a.toNat < 0x4000
  lo' : 0x2000 ≤ b.toNat
  hi' : b.toNat < 0x4000
  mod : b.toNat % 8 = a.toNat % 8

theorem sameRegister_first {a : Addr} (h : 0x2000 ≤ a.toNat) (h' : a.toNat < 0x4000) :
    SameRegister a (BitVec.ofNat 16 (0x2000 + a.toNat % 8)) := by
  have hr : (BitVec.ofNat 16 (0x2000 + a.toNat % 8)).toNat = 0x2000 + a.toNat % 8 := by simp; omega
  exact ⟨h, h', by omega, by omega, by omega⟩

theorem SameRegister.ppuReg_eq {a b : Addr} (h : SameRegister a b) : ppuReg a = ppuReg b := by
  rw [ppuReg_toNat a h.lo h.hi, ppuReg_toNat b h.lo' h.hi', h.mod]

/-- A read of Status, OAM data or the data port depends on the register alone. -/
theorem SameRegister.busRead_eq {a b : Addr} (h : SameRegister a b) (s : State)
    (hk : a.toNat % 8 = 2 ∨ a.toNat % 8 = 4 ∨ a.toNat % 8 = 7) : busRead a s = busRead b s := by
  rw [busRead_ppu s h.lo h.hi, busRead_ppu s h.lo' h.hi']
  unfold ppuRegRead
  rw [← h.ppuReg_eq]
  rcases hk with k | k | k <;> rw [ppuReg_of_mod h.lo h.hi k] <;> rfl

/-- A write of any register but Status depends on the register alone. -/
theorem SameRegister.busWrite_eq {a b : Addr} (h : SameRegister a b) (v : Byte) (s : State) (hk : a.toNat % 8 ≠ 2) :
    busWrite a v s = busWrite b v s := by
  have hr : ppuReg a ≠ 0x2002#16 := by
    rw [ppuReg_toNat a h.lo h.hi]
    bv_omega
  rw [busWrite_ppu v s h.lo h.hi, busWrite_ppu v s h.lo' h.hi']
  unfold ppuRegWrite
  rw [← h.ppuReg_eq, if_neg hr, if_neg hr]

/-- The byte read, and what the read does to the PPU, depend on the register alone. -/
theorem SameRegister.busRead_byte_ppu {a b : Addr} (h : SameRegister a b) (s : State) :
    (busRead a s).1 = (busRead b s).1 ∧ (busRead a s).2.ppu = (busRead b s).2.ppu := by
  by_cases hk : a.toNat % 8 = 2 ∨ a.toNat % 8 = 4 ∨ a.toNat % 8 = 7
  · rw [h.busRead_eq s hk]
    exact ⟨rfl, rfl⟩
  · have hw : a.toNat % 8 ∈ [0, 1, 3, 5, 6] := by simp; omega
    rw [busRead_writeOnly s h.lo h.hi hw, busRead_writeOnly s h.lo' h.hi' (h.mod ▸ hw)]
    exact ⟨rfl, (invalidAccess_devices _ a s).2.1.trans (invalidAccess_devices _ b s).2.1.symm⟩

/-- What a write does to the PPU depends on the register alone. -/
theorem SameRegister.busWrite_ppu_eq {a b : Addr} (h : SameRegister a b) (v : Byte) (s : State) :
    (busWrite a v s).ppu = (busWrite b v s).ppu := by
  by_cases hk : a.toNat % 8 = 2
  · rw [busWrite_status v s h.lo h.hi hk, busWrite_status v s h.lo' h.hi' (h.mod.trans hk)]
    exact (invalidAccess_devices _ a s).2.1.trans (invalidAccess_devices _ b s).2.1.symm
  · rw [h.busWrite_eq v s hk]

/-- Settles O36: an access goes by the register that its address selects; only an InvalidAccess names the address itself. -/
theorem ppuRegistersAreMirrored : Obligations.PpuRegistersAreMirrored := by
  intro a v s h h' r
  have hr : SameRegister a r := sameRegister_first h h'
  refine ⟨ppuReg_toNat a h h', hr.busRead_byte_ppu s, hr.busWrite_ppu_eq v s, hr.busRead_eq s, hr.busWrite_eq v s,
    fun hk => ?_, fun hk => ?_⟩
  · rw [busRead_writeOnly s h h' hk]
    exact ⟨fun hs => by rw [invalidAccess_permissive _ _ hs], fun hs hn => by rw [invalidAccess_first_stop _ _ hs hn]⟩
  · rw [busWrite_status v s h h' hk]
    exact ⟨invalidAccess_permissive _ _, invalidAccess_first_stop _ _⟩

/-! ### PRG-ROM, the APU stub and the unmapped addresses -/

/-- A write to PRG-ROM is an InvalidAccess (20_memory.md R87). -/
theorem busWrite_rom {a : Addr} (v : Byte) (s : State) (h : 0x8000 ≤ a.toNat) :
    busWrite a v s = invalidAccess .writeRom a s := by
  unfold busWrite
  rw [if_neg (by omega), if_neg (by omega), if_neg (by bv_omega), if_neg (by bv_omega), if_neg (by omega), if_neg (by omega)]

/-- The APU stub reads 0 (20_memory.md R84). -/
theorem busRead_apu {a : Addr} (s : State) (h : 0x4000 ≤ a.toNat) (h' : a.toNat ≤ 0x4015) : busRead a s = (0x00, s) := by
  unfold busRead
  rw [if_neg (by omega), if_neg (by omega), if_neg (by bv_omega), if_neg (by bv_omega), if_pos (by omega)]

/-- The APU stub discards a write (20_memory.md R84); 0x4014 is the OAM DMA, 0x4016 the joypads' strobe. -/
theorem busWrite_apu {a : Addr} (v : Byte) (s : State) (h : 0x4000 ≤ a.toNat) (h' : a.toNat ≤ 0x4017)
    (hd : a.toNat ≠ 0x4014) (hj : a.toNat ≠ 0x4016) : busWrite a v s = s := by
  unfold busWrite
  rw [if_neg (by omega), if_neg (by omega), if_neg (by bv_omega), if_neg (by bv_omega), if_pos (by omega)]

theorem busRead_unmapped {a : Addr} (s : State) (h : 0x4018 ≤ a.toNat) (h' : a.toNat ≤ 0x7FFF) :
    busRead a s = (0x00, logAt .unmapped a s) := by
  unfold busRead
  rw [if_neg (by omega), if_neg (by omega), if_neg (by bv_omega), if_neg (by bv_omega), if_neg (by omega), if_pos (by omega)]

theorem busWrite_unmapped {a : Addr} (v : Byte) (s : State) (h : 0x4018 ≤ a.toNat) (h' : a.toNat ≤ 0x7FFF) :
    busWrite a v s = logAt .unmapped a s := by
  unfold busWrite
  rw [if_neg (by omega), if_neg (by omega), if_neg (by bv_omega), if_neg (by bv_omega), if_neg (by omega), if_pos (by omega)]

theorem prgRead_k16 {c : Config} (a : Addr) (h : c.prgSize = .k16) :
    prgRead c a = c.prg.read ((a.toNat - 0x8000) % 0x4000) := by
  unfold prgRead
  rw [h]
  rfl

theorem prgRead_k32 {c : Config} (a : Addr) (h : c.prgSize = .k32) : prgRead c a = c.prg.read (a.toNat - 0x8000) := by
  unfold prgRead
  rw [h]
  rfl

/-- Settles O37, region by region. -/
theorem romStubAndUnmapped : Obligations.RomStubAndUnmapped := by
  refine fun a v s => ⟨fun h => ?_, busRead_apu s, busWrite_apu v s,
    fun h h' => ⟨busRead_unmapped s h h', busWrite_unmapped v s h h'⟩⟩
  rw [busRead_prg s h, busWrite_rom v s h]
  exact ⟨rfl, prgRead_k16 a, prgRead_k32 a, invalidAccess_permissive _ _⟩

/-! ### The tick and the host's frame -/

/-- The pending NMI on the next scanline: raised on the first of vblank with NMI generation on, cleared with the frame
(47_ppu_registers.md R351 to R353). -/
theorem nextScanline_nmiPending (p : Ppu) : p.nextScanline.1.nmiPending =
    if p.scanline = 240 then p.nmiPending || p.generateNmi else if 261 ≤ p.scanline then false else p.nmiPending := by
  unfold Ppu.nextScanline
  dsimp only
  by_cases h1 : p.scanline = 240
  · simp [h1, Ppu.scanline241, Ppu.generateNmi]
  · by_cases h2 : 261 ≤ p.scanline
    · simp [h1, h2, Ppu.scanline262]
    · simp [h1, h2]

/-- A tick of at most one scanline raises the NMI exactly when it enters scanline 241 with NMI generation on. -/
theorem tick_raises_iff {p : Ppu} {n : Nat} (hc : p.cycle < 341) (hn : n ≤ 341) (hp : p.nmiPending = false) :
    (p.tick n).1.nmiPending = true ↔ p.scanline = 240 ∧ 341 ≤ p.cycle + n ∧ p.generateNmi = true := by
  by_cases h : p.cycle + n < 341
  · rw [tick_within h]
    simp [hp, Nat.not_le.mpr h]
  · have hle : 341 ≤ p.cycle + n := Nat.not_lt.mp h
    have hg : Ppu.generateNmi { p with cycle := p.cycle + n } = p.generateNmi := rfl
    rw [tick_across hle (by omega), nextScanline_nmiPending, hg]
    by_cases h1 : p.scanline = 240 <;> simp [h1, hp, hle]

/-- The state after a Bus tick, before the host's turn (20_memory.md R110). -/
def tickClocks (n : Nat) (s : State) : State := { s with cycles := s.cycles + n, ppu := (s.ppu.tick (3 * n)).1 }

/-- A tick that raises the NMI tells the host, which takes its turn. -/
theorem busTick_of_raise {n : Nat} {s : State} (h : s.ppu.nmiPending = false)
    (h' : (s.ppu.tick (3 * n)).1.nmiPending = true) : busTick n s = hostFrame (emit .onFrame (tickClocks n s)) := by
  unfold busTick
  dsimp only
  rw [h, h']
  rfl

/-- A tick that raises no NMI moves the clocks alone. -/
theorem busTick_of_quiet {n : Nat} {s : State}
    (h : s.ppu.nmiPending = true ∨ (s.ppu.tick (3 * n)).1.nmiPending = false) : busTick n s = tickClocks n s := by
  unfold busTick
  dsimp only
  rcases h with h | h <;> simp [h, tickClocks]

theorem hostFrame_events (s : State) : (hostFrame s).events = s.events := by
  unfold hostFrame
  split <;> rfl

theorem hostFrame_of_cons {s : State} {b : Byte × Byte} {rest : List (Byte × Byte)} (h : s.input = b :: rest) :
    hostFrame s = { s with
      input := rest, joy0 := { s.joy0 with buttons := b.1 }, joy1 := { s.joy1 with buttons := b.2 } } := by
  unfold hostFrame
  rw [h]

theorem hostFrame_of_nil {s : State} (h : s.input = []) : hostFrame s = s := by
  unfold hostFrame
  rw [h]

/-- Settles O43: the host's turn comes exactly with a newly pending NMI (`tick_raises_iff`). -/
theorem frameEvent : Obligations.FrameEvent := by
  intro s n hc hn t
  have ht : Ticked n s t := busTick_ticked n s
  have hiff (hp : s.ppu.nmiPending = false) := tick_raises_iff (n := 3 * n) hc (by omega) hp
  refine ⟨ht.cycles, ht.ppu, ht.ram, ht.cfg, fun hs hx hg hp => ?_, fun h => ?_⟩
  · have hraise := (hiff hp).mpr ⟨hs, hx, hg⟩
    have e : t = hostFrame (emit .onFrame (tickClocks n s)) := busTick_of_raise hp hraise
    refine ⟨ht.ppu ▸ hraise, by rw [e, hostFrame_events]; rfl, fun b rest hi => ?_, fun hi => ?_⟩
    · rw [e, hostFrame_of_cons (s := emit .onFrame (tickClocks n s)) hi]; exact ⟨rfl, rfl, rfl⟩
    · rw [e, hostFrame_of_nil (s := emit .onFrame (tickClocks n s)) hi]; exact ⟨hi, rfl, rfl⟩
  · have hquiet : s.ppu.nmiPending = true ∨ (s.ppu.tick (3 * n)).1.nmiPending = false := by
      refine or_iff_not_imp_left.mpr fun hp => ?_
      rw [Bool.not_eq_true] at hp
      refine Bool.eq_false_iff.mpr fun hr => ?_
      obtain ⟨hs, hx, hg⟩ := (hiff hp).mp hr
      simp [hs, hg, hp, Nat.not_lt.mpr hx] at h
    have e : t = tickClocks n s := busTick_of_quiet hquiet
    rw [e]
    exact ⟨rfl, rfl, rfl, rfl⟩

end Sys2Proof.Machine
end

section
/-! PROOFS of the family 30_encoding.md. The table answers both ways: at its opcode byte an instruction finds itself
(`Encoding.every_instr`), and what a byte finds has that opcode byte (`opcode_of_decodeOpcode`). With `decode_cons_eq_ok_iff`, which
says all that `decode` can answer, the two halves of the round trip and R137 follow. -/

namespace Sys2Proof.Laws.Encoding

/-- The lemmas of the constructors, put together in the order of `Instr`. -/
theorem every_instr (i : Instr) : Statement i :=
  Instr.rec
    brk oraIzx nop02 sloIzx nop04 oraZp aslZp sloZp
    php oraImm aslAcc anc0B nop0C oraAbs aslAbs sloAbs
    bpl oraIzy nop12 sloIzy nop14 oraZpx aslZpx sloZpx
    clc oraAby nop1A sloAby nop1C oraAbx aslAbx sloAbx
    jsr andIzx nop22 rlaIzx bitZp andZp rolZp rlaZp
    plp andImm rolAcc anc2B bitAbs andAbs rolAbs rlaAbs
    bmi andIzy nop32 rlaIzy nop34 andZpx rolZpx rlaZpx
    sec andAby nop3A rlaAby nop3C andAbx rolAbx rlaAbx
    rti eorIzx nop42 sreIzx nop44 eorZp lsrZp sreZp
    pha eorImm lsrAcc alrImm jmpAbs eorAbs lsrAbs sreAbs
    bvc eorIzy nop52 sreIzy nop54 eorZpx lsrZpx sreZpx
    cli eorAby nop5A sreAby nop5C eorAbx lsrAbx sreAbx
    rts adcIzx nop62 rraIzx nop64 adcZp rorZp rraZp
    pla adcImm rorAcc arrImm jmpInd adcAbs rorAbs rraAbs
    bvs adcIzy nop72 rraIzy nop74 adcZpx rorZpx rraZpx
    sei adcAby nop7A rraAby nop7C adcAbx rorAbx rraAbx
    nop80 staIzx nop82 saxIzx styZp staZp stxZp saxZp
    dey nop89 txa xaaImm styAbs staAbs stxAbs saxAbs
    bcc staIzy nop92 ahxIzy styZpx staZpx stxZpy saxZpy
    tya staAby txs tasAby shyAbx staAbx shxAby ahxAby
    ldyImm ldaIzx ldxImm laxIzx ldyZp ldaZp ldxZp laxZp
    tay ldaImm tax lxaImm ldyAbs ldaAbs ldxAbs laxAbs
    bcs ldaIzy nopB2 laxIzy ldyZpx ldaZpx ldxZpy laxZpy
    clv ldaAby tsx lasAby ldyAbx ldaAbx ldxAby laxAby
    cpyImm cmpIzx nopC2 dcpIzx cpyZp cmpZp decZp dcpZp
    iny cmpImm dex axsImm cpyAbs cmpAbs decAbs dcpAbs
    bne cmpIzy nopD2 dcpIzy nopD4 cmpZpx decZpx dcpZpx
    cld cmpAby nopDA dcpAby nopDC cmpAbx decAbx dcpAbx
    cpxImm sbcIzx nopE2 isbIzx cpxZp sbcZp incZp isbZp
    inx sbcImm nopEA sbcEB cpxAbs sbcAbs incAbs isbAbs
    beq sbcIzy nopF2 isbIzy nopF4 sbcZpx incZpx isbZpx
    sed sbcAby nopFA isbAby nopFC sbcAbx incAbx isbAbx i

end Sys2Proof.Laws.Encoding

namespace Sys2Proof

open Laws

/-! ### OPTABLE -/

/-- An instruction is one to three bytes long (30_encoding.md R130). -/
theorem Instr.len_bounds (i : Instr) : 1 ≤ i.len ∧ i.len ≤ 3 := by
  obtain ⟨-, hlen, -⟩ := Encoding.every_instr i
  rw [hlen]
  cases i.desc.mode <;> decide

theorem decodeOpcode_opcode (i : Instr) : decodeOpcode i.desc.opcode = some i := (Encoding.every_instr i).1

/-- The rows of OPTABLE stand in the order of their opcode bytes (30_encoding.md R134). -/
theorem opTable_opcodes : opTable.map (·.desc.opcode) = (List.range 256).map (BitVec.ofNat 8) := by decide +kernel

theorem opTable_length : opTable.length = 256 := by simpa using congrArg List.length opTable_opcodes

/-- Each byte value has its entry (30_encoding.md R137). -/
theorem exists_decodeOpcode (b : Byte) : ∃ i, decodeOpcode b = some i :=
  ⟨_, List.getElem?_eq_getElem (opTable_length ▸ b.isLt)⟩

theorem opcode_of_decodeOpcode {b : Byte} {i : Instr} (h : decodeOpcode b = some i) : i.desc.opcode = b := by
  have hrow : (opTable.map (·.desc.opcode))[b.toNat]? = some i.desc.opcode := by
    rw [List.getElem?_map, show opTable[b.toNat]? = some i from h, Option.map_some]
  rw [opTable_opcodes, List.getElem?_map, List.getElem?_range b.isLt] at hrow
  simpa using hrow.symm

/-! ### The decoder -/

theorem Code.wellFormed_iff (c : Code) : c.WellFormed = true ↔ c.operands.length + 1 = c.op.len := decide_eq_true_iff

/-- Enough bytes for the instruction of the first byte: they decode to it. -/
theorem decode_cons_of_len_le {b : Byte} {tail : List Byte} {i : Instr} (hi : decodeOpcode b = some i)
    (hlen : i.len ≤ tail.length + 1) :
    decode (b :: tail) = .ok (⟨i, tail.take (i.len - 1)⟩, tail.drop (i.len - 1)) := by
  simp only [decode, hi, if_neg (Nat.not_lt.mpr hlen)]

/-- All that the decoder can answer: the instruction of the first byte, with the operands that its length asks for, which are
what the bytes go on with (30_encoding.md R130, R131). -/
theorem decode_cons_eq_ok_iff {b : Byte} {tail rest : List Byte} {c : Code} : decode (b :: tail) = .ok (c, rest) ↔
    decodeOpcode b = some c.op ∧ c.WellFormed = true ∧ c.operands ++ rest = tail := by
  rw [Code.wellFormed_iff]
  constructor
  · intro h
    simp only [decode] at h
    split at h
    · cases h
    · rename_i i hi
      split_ifs at h with hlen
      cases h
      have hpos := i.len_bounds.1
      have hcount : (tail.take (i.len - 1)).length + 1 = i.len := by rw [List.length_take_of_le] <;> omega
      exact ⟨hi, hcount, List.take_append_drop _ _⟩
  · rintro ⟨hop, hwf, rfl⟩
    have hn : c.op.len - 1 = c.operands.length := by omega
    rw [decode_cons_of_len_le hop (by rw [List.length_append]; omega), hn, List.take_left, List.drop_left]

/-! ### The obligations -/

/-- Settles O1: the instruction finds itself at its opcode byte, and its operands are what follows. -/
theorem decodeOfEncode : Obligations.DecodeOfEncode := fun c _ hwf =>
  decode_cons_eq_ok_iff.mpr ⟨decodeOpcode_opcode c.op, hwf, rfl⟩

/-- Settles O2: the entry found at a byte has that opcode byte, and no byte after it is dropped. -/
theorem encodeOfDecode : Obligations.EncodeOfDecode := by
  intro bytes rest c h
  cases bytes with
  | nil => cases h
  | cons b tail =>
    obtain ⟨hop, hwf, htail⟩ := decode_cons_eq_ok_iff.mp h
    exact ⟨hwf, by rw [encode, opcode_of_decodeOpcode hop, List.cons_append, htail]⟩

/-- Settles O3: each byte has its entry, and two more bytes are enough for the longest instruction. -/
theorem everyOpcodeDecodes : Obligations.EveryOpcodeDecodes := by
  intro b b1 b2 more
  obtain ⟨i, hi⟩ := exists_decodeOpcode b
  have hlen : i.len ≤ (b1 :: b2 :: more).length + 1 := i.len_bounds.2.trans (by simp)
  exact ⟨_, _, decode_cons_of_len_le hi hlen, opcode_of_decodeOpcode hi⟩

end Sys2Proof
end

section
/-! PROOFS of the family 40_cpu_step_addressing.md. A step that finds an entry for the byte it fetches runs that entry
(`step_of_decodeOpcode`). The effective address of a mode is its operand byte, its operand word or the word at a pointer in
page 0, with an index register added in the width of the mode; each of these parts has its arithmetic below. -/

namespace Sys2Proof

theorem toNat_zext16 (b : Byte) : (zext16 b).toNat = b.toNat := BitVec.toNat_setWidth_of_le (by decide)

/-- An index register added to a word wraps at 16 bits (40_cpu_step_addressing.md R171). -/
theorem toNat_add_zext16 (w : Addr) (b : Byte) : (w + zext16 b).toNat = (w.toNat + b.toNat) % 65536 := by
  rw [BitVec.toNat_add, toNat_zext16]

end Sys2Proof

namespace Sys2Proof.Machine

/-! ### The step -/

/-- A machine that runs and finds an entry for the byte it fetches, after the NMI check, executes that entry
(40_cpu_step_addressing.md R160). -/
theorem step_of_decodeOpcode {s : State} {i : Instr} (hrun : s.halted = false)
    (hi : decodeOpcode (fetchOpcode (serviceNmi s)).1 = some i) :
    let f := fetchOpcode (serviceNmi s)
    step s = afterExec i (f.1 :: peekBytes (i.len - 1) f.2.pc f.2) (exec i f.2) := by
  simp only [step, hrun, Bool.false_eq_true, if_false, hi]

/-- Settles O5: with no NMI pending the byte fetched is the one at PC, and its entry is the instruction decoded there. -/
theorem stepRunsTheDecodedInstruction : Obligations.StepRunsTheDecodedInstruction := by
  intro s c rest hrun hnmi hdec
  have hidle : serviceNmi s = s := serviceNmi_of_not_pending hnmi
  have hfetch : decodeOpcode (fetchOpcode (serviceNmi s)).1 = some c.op := by rw [hidle]; exact decode_peekBytes hdec
  have hstep := step_of_decodeOpcode hrun hfetch
  rw [hidle] at hstep
  exact hstep

/-! ### The effective address -/

theorem busRead16_toNat (a : Addr) (s : State) :
    (busRead16 a s).1.toNat = (busRead a s).1.toNat + 256 * (busRead (a + 1) (busRead a s).2).1.toNat := toNat_wordOf _ _

theorem ramIndex_zext16 (b : Byte) : ramIndex (zext16 b) = b.toNat := by
  rw [ramIndex_eq, toNat_zext16]
  have := b.isLt
  omega

/-- The pointer at offset `n` of page 0: both of its bytes come from page 0 (40_cpu_step_addressing.md R172, R173). -/
theorem zeroPagePointer_toNat {p : Byte} {n : Nat} (hp : p.toNat = n % 256) (s : State) : (zeroPagePointer p s).1.toNat =
    (s.ram.read (n % 256)).toNat + 256 * (s.ram.read ((n + 1) % 256)).toNat := by
  have hnext : (p + 1).toNat = (n + 1) % 256 := by rw [BitVec.toNat_add, hp]; exact Nat.mod_add_mod n 256 1
  rw [zeroPagePointer_eq, toNat_wordOf, ramIndex_zext16, ramIndex_zext16, hp, hnext]

theorem zeroPagePointer_state (p : Byte) (s : State) : (zeroPagePointer p s).2 = s := by rw [zeroPagePointer_eq]

/-- Settles O34, mode by mode; the operand read leaves RAM alone, so a pointer is read from the RAM of the start. -/
theorem effectiveAddresses : Obligations.EffectiveAddresses := by
  intro s b w page0
  have hword : (busRead16 s.pc s).1.toNat = w := busRead16_toNat s.pc s
  have hpointer {p : Byte} {n : Nat} (hp : p.toNat = n % 256) :
      (zeroPagePointer p (busRead s.pc s).2).1.toNat = page0 n := by
    rw [zeroPagePointer_toNat hp, busRead_ram]
  refine ⟨rfl, ?zp, ?zpx, ?zpy, ?abs, ?abx, ?aby, ?izx, ?izy, ?oneByte, ?twoBytes⟩
  case zp => exact toNat_zext16 _
  case zpx | zpy => exact (toNat_zext16 _).trans (BitVec.toNat_add _ _)
  case abs => exact hword
  case abx | aby => exact (toNat_add_zext16 _ _).trans (by rw [hword])
  case izx => exact hpointer (BitVec.toNat_add _ _)
  case izy => exact (toNat_add_zext16 _ _).trans (by rw [hpointer (Nat.mod_eq_of_lt (BitVec.isLt _)).symm])
  case oneByte => simp [effAddr, zeroPagePointer_state]
  case twoBytes => simp [effAddr, busRead16]

end Sys2Proof.Machine
end

section
/-! PROOFS of the family 41_load_store_transfer.md. Each form of a table runs the rule of its instruction in its own mode, and is
as long as its mode's operand; the shape's introduction lemma then leaves what the rule does to the registers and to P. -/
namespace Sys2Proof.Machine

/-- The introduction of `Implied` for a setting of the registers that takes Z and N from the byte `v`. -/
theorem implied_setZN_intro {i : Instr} {a x y sp v : State → Byte}
    (hx : ∀ s, exec i s = plain i (fun s => State.setZN (v s) { s with a := a s, x := x s, y := y s, sp := sp s }) s)
    (hl : i.len = 1) : Implied i (fun s t => t.Regs (a s) (x s) (y s) (sp s) ∧ s.ZNOnly (v s) t) :=
  implied_intro _ hx hl (fun _ => rfl) fun _ => ⟨⟨rfl, rfl, rfl, rfl⟩, znOnly_of rfl⟩

/-- Settles O10: the operand goes into one register, and the reads before it kept the others and P. -/
theorem loads : Obligations.Loads := by
  refine ⟨reads_intro (fun v t => (t.setA v).setZN v) ?lda (fun _ _ => rfl) fun s u v q h => ⟨⟨rfl, h.x, h.y, h.sp⟩, ?znA⟩,
    reads_intro (fun v t => (t.setX v).setZN v) ?ldx (fun _ _ => rfl) fun s u v q h => ⟨⟨h.a, rfl, h.y, h.sp⟩, ?znX⟩,
    reads_intro (fun v t => (t.setY v).setZN v) ?ldy (fun _ _ => rfl) fun s u v q h => ⟨⟨h.a, h.x, rfl, h.sp⟩, ?znY⟩⟩
  case lda | ldx | ldy =>
    intro f hf
    fin_cases hf <;> exact ⟨fun _ => rfl, rfl⟩
  case znA | znX | znY => exact znOnly_of (congrArg (znOf v) h.p)

/-- Settles O11: the value stored is a register that the operand's reads kept, and a Bus write changes neither a register nor P. -/
theorem registerStores : Obligations.RegisterStores := by
  have kept (s t : State) (ha : t.a = s.a) (hx : t.x = s.x) (hy : t.y = s.y) (hsp : t.sp = s.sp) (hp : t.p = s.p) :
      t.Regs s.a s.x s.y s.sp ∧ t.p = s.p := ⟨⟨ha, hx, hy, hsp⟩, hp⟩
  refine ⟨stores_intro (fun _ t => t.a) ?sta (fun _ _ _ h => h.a) kept,
    stores_intro (fun _ t => t.x) ?stx (fun _ _ _ h => h.x) kept,
    stores_intro (fun _ t => t.y) ?sty (fun _ _ _ h => h.y) kept⟩
  case sta | stx | sty =>
    intro f hf
    fin_cases hf <;> exact ⟨fun _ => rfl, rfl⟩

/-- Settles O12: five transfers set one register and take Z and N from it; TXS sets SP alone (41_load_store_transfer.md R200). -/
theorem transfers : Obligations.Transfers := by
  refine ⟨?tax, ?tay, ?tsx, ?txa, ?txs, ?tya⟩
  case txs => exact implied_intro txsRule (fun _ => rfl) rfl (fun _ => rfl) fun _ => ⟨⟨rfl, rfl, rfl, rfl⟩, rfl⟩
  case tax | tay | tsx | txa | tya => exact implied_setZN_intro (fun _ => rfl) rfl

end Sys2Proof.Machine
end

section
/-! PROOFS of the family 42_arith_logic.md. An instruction of this family works on the bytes of the state that its Bus reads left,
whose registers and P are those of the start (`CpuSame`); the laws of the flag shapes then say what its core leaves in P. -/
namespace Sys2Proof.Machine

/-! ### Addition and subtraction -/

/-- `AddCore`, run after Bus reads, adds to the A and the carry of the start (R210). -/
theorem CpuSame.added_addCore {s u : State} (h : CpuSame s u) (m : Byte) (q : Addr) :
    s.Added s.a m s.flagC ((addCore m u).setPc q) := by
  have hc : u.flagC = s.flagC := flagC_of_p h.p
  refine added_of ?result ?status
  case result => exact congrArg₂ (addResult · m) h.a hc
  case status => rw [State.setPc_p, addCore_p, h.a, h.p, hc]

/-- Settles O13: `AddCore` writes A and P alone, and D is neither read nor changed (R231). -/
theorem adcAdds : Obligations.AdcAdds := by
  refine reads_intro addCore ?forms (fun _ _ => rfl) fun s u m q h => ⟨⟨rfl, h.x, h.y, h.sp⟩, h.added_addCore m q⟩
  case forms =>
    intro f hf
    fin_cases hf <;> exact ⟨fun _ => rfl, rfl⟩

/-- Settles O14: adding the complement of the operand is subtracting it (R212). -/
theorem sbcSubtracts : Obligations.SbcSubtracts := by
  refine reads_intro (fun m t => addCore (~~~m) t) ?forms (fun _ _ => rfl) fun s u m q h =>
    ⟨⟨rfl, h.x, h.y, h.sp⟩, subtracted_of (h.added_addCore (~~~m) q)⟩
  case forms =>
    intro f hf
    fin_cases hf <;> exact ⟨fun _ => rfl, rfl⟩

/-! ### Logic, compares and the bit test -/

/-- The introduction of `Reads` for a setting of A to `op` of A and the operand, with Z and N taken from it. -/
theorem reads_accumulate_intro {forms : List (Instr × DataMode)} (op : Byte → Byte → Byte)
    (hx : ∀ f ∈ forms, (∀ s, exec f.1 s = plain f.1 (readOperand f.2 fun m t => (t.setA (op t.a m)).setZN (op t.a m)) s) ∧
      f.1.len - 1 = operandBytes f.2) :
    Reads forms (fun s m t => t.Regs (op s.a m) s.x s.y s.sp ∧ s.ZNOnly (op s.a m) t) := by
  refine reads_intro _ hx (fun _ _ => rfl) fun s u m q h => ⟨⟨?a, h.x, h.y, h.sp⟩, znOnly_of ?p⟩
  case a => exact congrArg (op · m) h.a
  case p => exact congrArg₂ (fun a p => znOf (op a m) p) h.a h.p

/-- Settles O15: the three operations differ in how they combine A with the operand alone. -/
theorem logicOps : Obligations.LogicOps := by
  refine ⟨reads_accumulate_intro (· &&& ·) ?and, reads_accumulate_intro (· ||| ·) ?ora, reads_accumulate_intro (· ^^^ ·) ?eor⟩
  case and | ora | eor =>
    intro f hf
    fin_cases hf <;> exact ⟨fun _ => rfl, rfl⟩

/-- The introduction of `Reads` for a compare with a register `r`, which Bus reads keep (R216). -/
theorem reads_compare_intro {forms : List (Instr × DataMode)} (r : State → Byte) (hr : ∀ {s u : State}, CpuSame s u → r u = r s)
    (hx : ∀ f ∈ forms, (∀ s, exec f.1 s = plain f.1 (readOperand f.2 fun m t => cmpCore (r t) m t) s) ∧
      f.1.len - 1 = operandBytes f.2) :
    Reads forms (fun s m t => t.Regs s.a s.x s.y s.sp ∧ s.Compared (r s) m t) := by
  refine reads_intro _ hx (fun _ _ => rfl) fun s u m q h => ⟨⟨h.a, h.x, h.y, h.sp⟩, compared_of ?p⟩
  rw [← hr h, ← h.p]
  rfl

/-- Settles O16: the three compares differ in their register alone. -/
theorem compares : Obligations.Compares := by
  refine ⟨reads_compare_intro State.a CpuSame.a ?cmp, reads_compare_intro State.x CpuSame.x ?cpx,
    reads_compare_intro State.y CpuSame.y ?cpy⟩
  case cmp | cpx | cpy =>
    intro f hf
    fin_cases hf <;> exact ⟨fun _ => rfl, rfl⟩

theorem bitCore_p (m : Byte) (s : State) : (bitCore m s).p =
    putBit (putBit (putBit s.p bitZ (decide (s.a &&& m = 0))) bitN (bitOf m 7)) bitV (bitOf m 6) := rfl

/-- Each bit of P after a bit test: Z from the AND, N and V from the operand, the rest as before (R220). -/
theorem bitOf_bitCore (m : Byte) (s : State) (k : Nat) : bitOf (bitCore m s).p k =
    if bitV = k then bitOf m 6 else if bitN = k then bitOf m 7 else if bitZ = k then decide (s.a &&& m = 0) else bitOf s.p k := by
  rw [bitCore_p, bitOf_putBit _ _ _ _ (by decide), bitOf_putBit _ _ _ _ (by decide), bitOf_putBit _ _ _ _ (by decide)]

theorem bitCore_keepsFlags (m : Byte) (s : State) : s.KeepsFlags [bitZ, bitV, bitN] (bitCore m s) := by
  intro k hk
  simp only [List.mem_cons, List.not_mem_nil, or_false, not_or] at hk
  obtain ⟨hz, hv, hn⟩ := hk
  exact (bitOf_bitCore m s k).trans (by rw [if_neg (Ne.symm hv), if_neg (Ne.symm hn), if_neg (Ne.symm hz)]; rfl)

/-- Settles O17: a bit test writes P alone, and reads A in its Z alone. -/
theorem bitTests : Obligations.BitTests := by
  refine reads_intro bitCore ?forms (fun _ _ => rfl) fun s u m q h =>
    ⟨⟨h.a, h.x, h.y, h.sp⟩, ?z, bitOf_bitCore m u bitN, bitOf_bitCore m u bitV, fun k hk => ?kept⟩
  case forms =>
    intro f hf
    fin_cases hf <;> exact ⟨fun _ => rfl, rfl⟩
  case z => rw [← h.a]; exact bitOf_bitCore m u bitZ
  case kept => rw [← h.p]; exact bitCore_keepsFlags m u k hk

/-! ### Increments and decrements -/

/-- The introduction of `Modifies` for a write of `result` of the operand, with Z and N taken from it. -/
theorem modifies_setZN_intro {forms : List (Instr × DataMode)} (result : Byte → Byte)
    (hx : ∀ f ∈ forms, (∀ s, exec f.1 s = plain f.1 (modifyOperand f.2 (fun m _ => result m) fun m t => t.setZN (result m)) s) ∧
      f.1.len - 1 = operandBytes f.2) :
    Modifies forms (fun _ m => result m) (fun s m t => t.Regs s.a s.x s.y s.sp ∧ s.ZNOnly (result m) t) :=
  modifies_intro _ _ hx (fun _ _ => rfl) (fun _ _ => rfl) fun _ _ m _ h =>
    ⟨⟨h.a, h.x, h.y, h.sp⟩, znOnly_of (congrArg (znOf (result m)) h.p)⟩

/-- Settles O18: one more and one less modulo 256 are the model's `+ 1` and `- 1`, of a byte of memory or of a register. -/
theorem incrementsAndDecrements : Obligations.IncrementsAndDecrements := by
  simp only [Obligations.IncrementsAndDecrements, ← inc_eq, ← dec_eq]
  refine ⟨modifies_setZN_intro (· + 1) ?inc, modifies_setZN_intro (· - 1) ?dec, ?inx, ?iny, ?dex, ?dey⟩
  case inc | dec =>
    intro f hf
    fin_cases hf <;> exact ⟨fun _ => rfl, rfl⟩
  case inx | iny | dex | dey => exact implied_setZN_intro (fun _ => rfl) rfl

end Sys2Proof.Machine
end

section
/-! PROOFS of the family 43_shift_rotate.md. A shift's function is its arithmetic: a result and the bit shifted out (`aslVal_eq`,
`lsrVal_eq`, `rolVal_eq`, `rorVal_eq`). One introduction lemma for the accumulator and one for memory carry any such function
through the rule of R240. -/
namespace Sys2Proof.Machine

/-- The flags of a shift depend on the P they are set in alone: Z and N from the result, C from the bit shifted out (R240). -/
theorem shiftFlags_p (r : Byte × Bool) (s : State) : (shiftFlags r s).p = znOf r.1 (putBit s.p bitC r.2) := rfl

/-- `shiftFlags`, run in a state whose P is that of the start, leaves the flags of a shift of the start. -/
theorem shifted_shiftFlags {s u : State} (hp : u.p = s.p) (v : Byte) (c : Bool) (q : Addr) :
    s.Shifted c v ((shiftFlags (v, c) u).setPc q) :=
  shifted_of (by rw [State.setPc_p, shiftFlags_p, hp])

/-- The introduction of `Implied` for a shift of A by a function with the result `value` and the carry out `out`. -/
theorem implied_shiftAcc_intro {i : Instr} {f : Bool → Byte → Byte × Bool} {value : Bool → Byte → Byte} {out : Byte → Bool}
    (hf : ∀ c v, f c v = (value c v, out v)) (hx : ∀ s, exec i s = plain i (shiftAcc f) s) (hl : i.len = 1) :
    Implied i (fun s t => t.Regs (value s.flagC s.a) s.x s.y s.sp ∧ s.Shifted (out s.a) (value s.flagC s.a) t) := by
  refine implied_intro (shiftAcc f) hx hl (fun _ => rfl) fun s => ?_
  rw [shiftAcc, hf]
  exact ⟨⟨rfl, rfl, rfl, rfl⟩, shifted_shiftFlags (State.setA_p _ s) _ _ _⟩

/-- The introduction of `Modifies` for a shift of memory by a function with the result `value` and the carry out `out`; the
carry in is that of the start, since Bus accesses keep P. -/
theorem modifies_shiftMem_intro {forms : List (Instr × DataMode)} {f : Bool → Byte → Byte × Bool} {value : Bool → Byte → Byte}
    {out : Byte → Bool} (hf : ∀ c v, f c v = (value c v, out v))
    (hx : ∀ g ∈ forms, (∀ s, exec g.1 s = plain g.1 (shiftMem f g.2 fun _ t => t) s) ∧ g.1.len - 1 = operandBytes g.2) :
    Modifies forms value (fun s m t => t.Regs s.a s.x s.y s.sp ∧ s.Shifted (out m) (value s.flagC m) t) := by
  refine modifies_intro _ _ hx (fun u m => congrArg Prod.fst (hf u.flagC m)) (fun _ _ => rfl) fun s u m q h => ?_
  dsimp only
  rw [hf, flagC_of_p h.p]
  exact ⟨⟨h.a, h.x, h.y, h.sp⟩, shifted_shiftFlags h.p _ _ _⟩

/-- Settles O19: the four accumulator forms differ in their function alone. -/
theorem shiftsOfTheAccumulator : Obligations.ShiftsOfTheAccumulator :=
  ⟨implied_shiftAcc_intro aslVal_eq (fun _ => rfl) rfl, implied_shiftAcc_intro lsrVal_eq (fun _ => rfl) rfl,
    implied_shiftAcc_intro rolVal_eq (fun _ => rfl) rfl, implied_shiftAcc_intro rorVal_eq (fun _ => rfl) rfl⟩

/-- Settles O20: the sixteen memory forms differ in their function and their mode alone. -/
theorem shiftsOfMemory : Obligations.ShiftsOfMemory := by
  refine ⟨modifies_shiftMem_intro aslVal_eq ?asl, modifies_shiftMem_intro lsrVal_eq ?lsr,
    modifies_shiftMem_intro rolVal_eq ?rol, modifies_shiftMem_intro rorVal_eq ?ror⟩
  case asl | lsr | rol | ror =>
    intro g hg
    fin_cases hg <;> exact ⟨fun _ => rfl, rfl⟩

end Sys2Proof.Machine
end

section
/-! PROOFS of the family 44_control_flow.md. A control transfer first settles the stack (JSR, RTS, RTI; nothing for the others), then
makes Bus reads alone, then sets PC. `control_lands` says once what such an instruction leaves of the state after its stack
operation; each proof below adds the stack in closed form and the arithmetic of its target. -/
namespace Sys2Proof

/-- Keeping the high byte of a word rounds its number down to the page. -/
theorem toNat_and_page (w : Addr) : (w &&& 0xFF00#16).toNat = w.toNat / 256 * 256 := by
  have hmask : (0xFF00#16 : Addr) = BitVec.allOnes 16 <<< 8 := by decide
  have := w.isLt
  rw [hmask, ← BitVec.shiftLeft_ushiftRight, BitVec.toNat_shiftLeft, BitVec.toNat_ushiftRight, Nat.shiftRight_eq_div_pow,
    Nat.shiftLeft_eq]
  omega

/-- A sign-extended byte added to a word moves it by the byte's signed value, modulo 65536. -/
theorem toNat_add_sext16 (w : Addr) (b : Byte) : ((w + sext16 b).toNat : Int) = (w.toNat + b.toInt) % 65536 := by
  have hext : (sext16 b).toInt = b.toInt := BitVec.toInt_signExtend_of_le (by decide)
  rw [BitVec.toInt_eq_toNat_cond] at hext
  rw [BitVec.toNat_add, ← hext]
  split_ifs <;> omega

end Sys2Proof

namespace Sys2Proof.Machine

/-! ### Bus reads alone -/

/-- `u` is `s` after Bus reads alone: the CPU, RAM and the PPU's memories are as before, and a permissive machine is not stopped. -/
structure ByReads (s u : State) : Prop where
  cpu : CpuSame s u
  ram : u.ram = s.ram
  ppu : PpuReadSame s.ppu u.ppu
  stop : s.cfg.strict = false → u.stop = s.stop

theorem ByReads.refl (s : State) : ByReads s s := ⟨CpuSame.refl s, rfl, PpuReadSame.refl _, fun _ => rfl⟩

theorem ByReads.read {s u : State} (h : ByReads s u) (a : Addr) : ByReads s (busRead a u).2 where
  cpu := h.cpu.trans (busRead_cpuSame a u)
  ram := (busRead_ram a u).trans h.ram
  ppu := h.ppu.trans (busRead_ppuSame a u)
  stop hs := (busRead_stop a u (by rw [h.cpu.cfg]; exact hs)).trans (h.stop hs)

theorem ByReads.read16 {s u : State} (h : ByReads s u) (a : Addr) : ByReads s (busRead16 a u).2 :=
  (h.read a).read (a + 1)

/-- An instruction that makes Bus reads alone from `b`, the state after its stack operation, and then sets PC: it answers, and
every field but PC and the devices is that of `b`. -/
theorem control_lands {i : Instr} {s b u : State} {q : Addr} (hx : exec i s = finish (u.setPc q)) (hb : b.Permissive)
    (hr : ByReads b u) : ∃ t, exec i s = .next t ∧ t.pc = q ∧ t.Regs b.a b.x b.y b.sp ∧ t.p = b.p ∧ t.halted = b.halted ∧
      b.SameMemory t ∧ b.SameRun t ∧ u.SameDevices t := by
  have hstop : (u.setPc q).stop = none := (hr.stop hb.1).trans hb.2
  exact ⟨u.setPc q, hx.trans (finish_next _ hstop), rfl, ⟨hr.cpu.a, hr.cpu.x, hr.cpu.y, hr.cpu.sp⟩, hr.cpu.p, hr.cpu.halted,
    sameMemory_of_reads hr.ram hr.ppu hr.cpu.cfg, ⟨hr.cpu.cycles, hr.cpu.cfg, hr.cpu.input, hstop⟩, ⟨rfl, rfl, rfl, rfl⟩⟩

/-! ### Jumps -/

/-- The high byte of an indirect jump's target comes from the page of the pointer (R251). -/
theorem jmpHighAddr_eq (w : Addr) : jmpHighAddr w = BitVec.ofNat 16 (w.toNat / 256 * 256 + (w.toNat + 1) % 256) := by
  have hlow : loByte w = 0xFF#8 ↔ w.toNat % 256 = 255 := by rw [← BitVec.toNat_inj, loByte_toNat]; rfl
  have := w.isLt
  refine BitVec.eq_of_toNat_eq ?_
  rw [jmpHighAddr, BitVec.toNat_ofNat]
  split_ifs with h
  · rw [toNat_and_page]
    have := hlow.mp h
    omega
  · rw [BitVec.toNat_add]
    have := mt hlow.mpr h
    change (w.toNat + 1) % 65536 = _
    omega

/-- Settles O21: the operand word, and for the indirect form the word at it inside its page. -/
theorem jumps : Obligations.Jumps := by
  constructor
  case left =>
    intro s hs lo hi
    obtain ⟨t, hx, hpc, frame⟩ := control_lands (i := .jmpAbs) rfl hs ((ByReads.refl s).read16 s.pc)
    exact ⟨t, hx, by rw [hpc]; exact toNat_wordOf _ _, frame⟩
  case right =>
    intro s hs pl ph ptr lo hi
    have hptr : (busRead16 s.pc s).1.toNat = ptr := busRead16_toNat s.pc s
    have hlo : busRead (busRead16 s.pc s).1 ph.2 = lo := by
      rw [← BitVec.setWidth_eq (busRead16 s.pc s).1, ← BitVec.ofNat_toNat, hptr]
    have hhi : busRead (jmpHighAddr (busRead16 s.pc s).1) lo.2 = hi := by rw [jmpHighAddr_eq, hptr]
    have hx : exec .jmpInd s = finish (hi.2.setPc (wordOf lo.1 hi.1)) := by rw [← hhi, ← hlo]; rfl
    obtain ⟨t, hx, hpc, frame⟩ := control_lands hx hs ((((ByReads.refl s).read16 s.pc).read _).read _)
    exact ⟨t, hx, by rw [hpc]; exact toNat_wordOf _ _, frame⟩

/-! ### Calls and returns -/

/-- A word pushed in closed form: the high byte at SP, the low byte below it (40_cpu_step_addressing.md R177). -/
theorem push16_eq (w : Addr) (s : State) : push16 w s = { s with
    ram := (s.ram.write (0x100 + s.sp.toNat) (hiByte w)).write (0x100 + (s.sp - 1).toNat) (loByte w), sp := s.sp - 2 } := by
  rw [push16, push_index, push_index]
  simp only [sp_sub_two]

/-- A word pulled in closed form (40_cpu_step_addressing.md R178). -/
theorem pull16_eq (s : State) : pull16 s =
    (wordOf (s.ram.read (0x100 + (s.sp + 1).toNat)) (s.ram.read (0x100 + (s.sp + 2).toNat)), { s with sp := s.sp + 2 }) := by
  rw [pull16, pull_index]
  simp only [pull_index, sp_add_two]

theorem stackSlot_ne (sp : Byte) : 0x100 + sp.toNat ≠ 0x100 + (sp - 1).toNat := by bv_omega

/-- Settles O22: the two pushed bytes lie at different slots, so both are read back; RTS reads two stack bytes of RAM. -/
theorem subroutineCallAndReturn : Obligations.SubroutineCallAndReturn := by
  constructor
  case left =>
    intro s hs ⟨⟨hwf, _⟩, _⟩ u lo hi
    have hpush : push16 (s.pc + 1) s = u := push16_eq _ s
    have hx : exec .jsr s = finish ((busRead16 s.pc u).2.setPc (busRead16 s.pc u).1) := by rw [← hpush]; rfl
    obtain ⟨t, hx, hpc, hregs, hp, hhalted, ⟨hram, hvram, hpal, hoam, -⟩, hrun, hdev⟩ :=
      control_lands (b := u) hx hs ((ByReads.refl u).read16 s.pc)
    have hslots (k : Nat) : t.ram.read k = if k = 0x100 + (s.sp - 1).toNat then loByte (s.pc + 1)
        else if k = 0x100 + s.sp.toNat then hiByte (s.pc + 1) else s.ram.read k := by
      rw [hram, Memory.read_write _ _ _ _ (Memory.wf_write _ _ _ hwf), Memory.read_write _ _ _ _ hwf]
    refine ⟨t, hx, by rw [hpc]; exact toNat_wordOf _ _, hregs, hp, hhalted, ?slots, fun k hhi hlo => ?rest,
      fun k => ⟨hvram k, hpal k, hoam k⟩, hrun, hdev⟩
    case slots =>
      rw [hslots, hslots, if_neg (stackSlot_ne s.sp), if_pos rfl, if_pos rfl, hiByte_toNat, loByte_toNat]
      exact Nat.div_add_mod _ 256
    case rest => rw [hslots, if_neg hlo, if_neg hhi]
  case right =>
    intro s hs
    have hx : exec .rts s = finish ((pull16 s).2.setPc ((pull16 s).1 + 1)) := rfl
    rw [pull16_eq] at hx
    obtain ⟨t, hx, hpc, frame⟩ := control_lands (b := { s with sp := s.sp + 2 }) hx hs (ByReads.refl _)
    exact ⟨t, hx, by rw [hpc, BitVec.toNat_add, toNat_wordOf]; rfl, frame⟩

/-- Each bit of P as a pull leaves it (R259). -/
theorem bitOf_pulledStatus (v : Byte) (k : Nat) :
    bitOf (pulledStatus v) k = if bitU = k then true else if bitB = k then false else bitOf v k := by
  rw [pulledStatus, bitOf_putBit _ _ _ _ (by decide), bitOf_putBit _ _ _ _ (by decide)]

/-- RTI before PC is set: P and SP pulled (R259). -/
def rtiPulled (s : State) : State :=
  { s with p := pulledStatus (s.ram.read (0x100 + (s.sp + 1).toNat)), sp := s.sp + 3 }

theorem exec_rti (s : State) : exec .rti s = finish ((rtiPulled s).setPc
    (wordOf (s.ram.read (0x100 + (s.sp + 2).toNat)) (s.ram.read (0x100 + (s.sp + 3).toNat)))) := by
  have hx : exec .rti s = finish (returnFromNmi s) := rfl
  rw [hx, returnFromNmi_eq]
  rfl

/-- Settles O23: what is pulled goes into P, SP and PC alone, and P keeps six of the pulled bits. -/
theorem rtiReturns : Obligations.RtiReturns := by
  intro s hs
  obtain ⟨t, hx, hpc, hregs, hp, frame⟩ := control_lands (b := rtiPulled s) (exec_rti s) hs (ByReads.refl _)
  have hbit (k : Nat) : bitOf t.p k = if bitU = k then true else if bitB = k then false
      else bitOf (s.ram.read (0x100 + (s.sp + 1).toNat)) k := by rw [hp]; exact bitOf_pulledStatus _ k
  refine ⟨t, hx, hbit bitB, hbit bitU, fun k hB hU => ?kept, by rw [hpc, toNat_wordOf], hregs, frame⟩
  case kept => exact (hbit k).trans (by rw [if_neg (Ne.symm hU), if_neg (Ne.symm hB)]; rfl)

/-! ### Branches -/

/-- Settles O24: the eight differ in their condition alone; taken, one Bus read and a signed sum; not taken, no read (R254). -/
theorem branches : Obligations.Branches := by
  intro f hf s hs
  obtain ⟨hx, hlen⟩ : exec f.1 s = finish (branchRule f.1 f.2 s) ∧ f.1.len = 2 := by fin_cases hf <;> exact ⟨rfl, rfl⟩
  cases hc : f.2 s with
  | true =>
    rw [branchRule, if_pos hc] at hx
    obtain ⟨t, hx, hpc, hregs, hp, hhalted, hmem, hrun, hdev⟩ := control_lands hx hs ((ByReads.refl s).read s.pc)
    refine ⟨t, hx, hregs, hp, hhalted, hmem, hrun, fun _ => ⟨?_, hdev⟩, nofun⟩
    rw [hpc, toNat_add_sext16, BitVec.toNat_add]
    simp
  | false =>
    rw [branchRule, if_neg (by simp [hc]), advancePc, hlen] at hx
    obtain ⟨t, hx, hpc, hregs, hp, hhalted, hmem, hrun, hdev⟩ := control_lands hx hs (ByReads.refl s)
    exact ⟨t, hx, hregs, hp, hhalted, hmem, hrun, nofun, fun _ => ⟨hpc, hdev⟩⟩

/-! ### BRK -/

theorem exec_brk_next {s : State} (h : s.stop = none) : exec .brk s = .next { s with halted := true } :=
  (exec_brk s).trans (finish_next _ h)

/-- Settles O25: byte 0x00 is BRK's, and a state that `exec` halted is neither ticked nor traced (R262). -/
theorem brkHalts : Obligations.BrkHalts := by
  refine ⟨fun s hs => exec_brk_next hs.2, fun s hs hrun hnmi hbyte => ?_⟩
  have hidle : serviceNmi s = s := serviceNmi_of_not_pending hnmi
  have hfetch : decodeOpcode (fetchOpcode (serviceNmi s)).1 = some .brk := by
    rw [hidle]
    exact (congrArg decodeOpcode hbyte).trans (decodeOpcode_opcode .brk)
  have hstop : (fetchOpcode s).2.stop = none := (busRead_stop s.pc s hs.1).trans hs.2
  rw [step_of_decodeOpcode hrun hfetch, hidle, exec_brk_next hstop]
  rfl

/-! ### NOPs -/

/-- Settles O26: the implied and the immediate ones run the empty rule, the others read their operand and drop it (R314 to R317). -/
theorem nopsChangeNothing : Obligations.NopsChangeNothing := by
  refine ⟨fun i hi => ?implied, fun i hi s hs => ?immediate, reads_intro (fun _ t => t) ?forms (fun _ _ => rfl) fun s u _ q h =>
    ⟨⟨h.a, h.x, h.y, h.sp⟩, h.p⟩⟩
  case implied =>
    obtain ⟨hx, hlen⟩ : (∀ s, exec i s = plain i nopRule s) ∧ i.len = 1 := by fin_cases hi <;> exact ⟨fun _ => rfl, rfl⟩
    exact implied_intro nopRule hx hlen (fun _ => rfl) fun _ => ⟨⟨rfl, rfl, rfl, rfl⟩, rfl⟩
  case immediate =>
    obtain ⟨hx, hlen⟩ : exec i s = plain i nopRule s ∧ i.len = 2 := by fin_cases hi <;> exact ⟨rfl, rfl⟩
    rw [hx, plain_next _ _ _ hs.2, hlen]
    rfl
  case forms =>
    intro f hf
    fin_cases hf <;> exact ⟨fun _ => rfl, rfl⟩

end Sys2Proof.Machine
end

section
/-! PROOFS of the family 45_stack_flags.md. A push is one write into RAM, a pull one read of it (`push_index`, `pull_index`).
PHA and PHP differ in the byte they push alone, the seven flag instructions in their bit alone. -/
namespace Sys2Proof.Machine

/-! ### The stack instructions -/

/-- The status byte that PHP pushes, as arithmetic (R282). -/
theorem or_breakBits (p : Byte) : p ||| 0x30#8 = BitVec.ofNat 8 (p.toNat ||| 0x30) := by
  rw [BitVec.ofNat_or, BitVec.ofNat_toNat, BitVec.setWidth_eq]

theorem advancePc_of_len_one {i : Instr} (hl : i.len = 1) (s : State) : advancePc i s = s := by
  have hpc : s.pc + BitVec.ofNat 16 (i.len - 1) = s.pc := by rw [hl]; exact BitVec.add_zero s.pc
  rw [advancePc, hpc]
  rfl

/-- What an instruction answers that pushes one byte: that byte in RAM, SP one less, and nothing else (R280, R282). -/
theorem exec_push_next {i : Instr} {v : State → Byte} {s : State} (hx : exec i s = plain i (fun s => push (v s) s) s)
    (hl : i.len = 1) (hs : s.stop = none) :
    exec i s = .next { s with ram := s.ram.write (0x100 + s.sp.toNat) (v s), sp := s.sp - 1 } := by
  rw [hx, plain, push_index, advancePc_of_len_one hl]
  exact finish_next _ hs

/-- `A <- Pull(); setZN(A)` in closed form (R281). -/
theorem plaRule_eq (s : State) : plaRule s = State.setZN (s.ram.read (0x100 + (s.sp + 1).toNat))
    { s with a := s.ram.read (0x100 + (s.sp + 1).toNat), sp := s.sp + 1 } := by
  rw [plaRule, pull_index]
  rfl

/-- `P <- Pull()` with its two bits forced, in closed form (R283). -/
theorem plpRule_eq (s : State) :
    plpRule s = { s with p := pulledStatus (s.ram.read (0x100 + (s.sp + 1).toNat)), sp := s.sp + 1 } := by
  rw [plpRule, pull_index]
  rfl

theorem pulledStatus_keeps (v : Byte) {k : Nat} (hB : k ≠ bitB) (hU : k ≠ bitU) :
    (pulledStatus v).getLsbD k = v.getLsbD k := by
  rw [pulledStatus, putBit_keeps _ _ (by decide) hU, putBit_keeps _ _ (by decide) hB]

/-- Settles O27: a push writes the RAM byte at SP alone; a pull changes SP, the register it loads and, for PLA, Z and N. -/
theorem stackInstructions : Obligations.StackInstructions := by
  refine ⟨fun f hf s hs ⟨⟨hwf, _⟩, _⟩ => ?push,
    implied_setZN_intro (fun s => congrArg (finish <| advancePc .pla ·) (plaRule_eq s)) rfl,
    implied_intro plpRule (fun _ => rfl) rfl (fun s => by rw [plpRule_eq]; rfl) fun s => ?plp⟩
  case push =>
    obtain ⟨hx, hlen⟩ : exec f.1 s = plain f.1 (fun s => push (f.2 s) s) s ∧ f.1.len = 1 := by
      fin_cases hf
      · exact ⟨rfl, rfl⟩
      · simp only [← or_breakBits]
        exact ⟨rfl, rfl⟩
    have hread (k : Nat) := Memory.read_write s.ram (0x100 + s.sp.toNat) k (f.2 s) hwf
    exact ⟨_, exec_push_next hx hlen hs.2, ⟨rfl, rfl, rfl, rfl⟩, rfl, rfl, rfl, (hread _).trans (if_pos rfl),
      fun k hk => (hread k).trans (if_neg hk), ⟨rfl, rfl, rfl, hs.2⟩, ⟨rfl, rfl, rfl, rfl⟩⟩
  case plp =>
    rw [plpRule_eq]
    exact ⟨⟨rfl, rfl, rfl, rfl⟩, bitOf_pulledStatus _ bitB, bitOf_pulledStatus _ bitU, fun k => pulledStatus_keeps _⟩

/-! ### The flag instructions -/

/-- Settles O28: each writes one bit of P, and `putBit` keeps the others. -/
theorem flagInstructions : Obligations.FlagInstructions := by
  intro f hf
  obtain ⟨hx, hlen, hbit⟩ : (∀ s, exec f.1 s = plain f.1 (State.setFlag f.2.1 f.2.2) s) ∧ f.1.len = 1 ∧ f.2.1 < 8 := by
    fin_cases hf <;> exact ⟨fun _ => rfl, rfl, by decide⟩
  refine implied_intro _ hx hlen (fun _ => rfl) fun s => ⟨⟨rfl, rfl, rfl, rfl⟩, ?written, fun k hk => ?kept⟩
  case written => exact (bitOf_putBit s.p _ _ _ hbit).trans (if_pos rfl)
  case kept => exact putBit_keeps s.p _ hbit (mt List.mem_singleton.mpr hk)

end Sys2Proof.Machine
end

section
/-! PROOFS of the family 46_unofficial.md. A composite runs a first micro-operation whole, then a second one on its result
(R300). The second sets Z and N itself, so that of the first one's flags C alone is left to see: what the two leave in P together
is said once for each pair of shapes (`State.Shifted.then_setZN`, `State.Shifted.of_znOnly`, `State.Added.of_keepsFlags` and so on). -/
namespace Sys2Proof.Machine

/-! ### The flags of two operations in a row -/

theorem State.KeepsFlags.mono {changed changed' : List Nat} {s t : State} (h : s.KeepsFlags changed t)
    (hsub : changed ⊆ changed') : s.KeepsFlags changed' t := fun k hk => h k (mt (@hsub k) hk)

theorem State.KeepsFlags.trans {changed : List Nat} {s w t : State} (h : s.KeepsFlags changed w)
    (h' : w.KeepsFlags changed t) : s.KeepsFlags changed t := fun k hk => (h' k hk).trans (h k hk)

theorem State.ZNOnly.flagC {s w : State} {v : Byte} (h : s.ZNOnly v w) : w.flagC = s.flagC := h.2 bitC (by decide)

/-- Of two settings of Z and N the later one alone is left. -/
theorem State.ZNOnly.trans {s w t : State} {v r : Byte} (h : s.ZNOnly v w) (h' : w.ZNOnly r t) : s.ZNOnly r t :=
  ⟨h'.1, h.2.trans h'.2⟩

/-- Setting Z and N after a shift: C is still the bit shifted out. -/
theorem State.Shifted.then_setZN {s w t : State} {c : Bool} {v r : Byte} (h : s.Shifted c v w) (h' : w.ZNOnly r t) :
    s.Shifted c r t := by
  obtain ⟨hC, -, hkept⟩ := h
  obtain ⟨hZN, hkept'⟩ := h'
  exact ⟨(hkept' bitC (by decide)).trans hC, hZN, hkept.trans (hkept'.mono (by decide))⟩

/-- A shift after a setting of Z and N leaves the flags of the shift. -/
theorem State.Shifted.of_znOnly {s w t : State} {c : Bool} {v r : Byte} (h' : w.Shifted c r t) (h : s.ZNOnly v w) :
    s.Shifted c r t := by
  obtain ⟨hC, hZN, hkept'⟩ := h'
  exact ⟨hC, hZN, (h.2.mono (by decide)).trans hkept'⟩

/-- An addition leaves its own flags, whatever changed those of the four that it sets. -/
theorem State.Added.of_keepsFlags {s w t : State} {a m : Byte} {c : Bool} (h' : w.Added a m c t)
    (h : s.KeepsFlags [bitC, bitZ, bitV, bitN] w) : s.Added a m c t := by
  obtain ⟨hsum, hC, hV, hZN, hkept'⟩ := h'
  exact ⟨hsum, hC, hV, hZN, h.trans hkept'⟩

/-- A compare leaves its own flags, whatever changed those of the three that it sets. -/
theorem State.Compared.of_keepsFlags {s w t : State} {r m : Byte} (h' : w.Compared r m t)
    (h : s.KeepsFlags [bitC, bitZ, bitN] w) : s.Compared r m t := by
  obtain ⟨hC, hZ, hN, hkept'⟩ := h'
  exact ⟨hC, hZ, hN, h.trans hkept'⟩

/-! ### Composites of memory -/

/-- The introduction of `Modifies` for a shift of memory, then `after` on its result: `after` starts from a state whose registers
are those of the start and whose P is that of the shift (R301 to R304). -/
theorem modifies_shiftThen_intro {forms : List (Instr × DataMode)} {f : Bool → Byte → Byte × Bool} {value : Bool → Byte → Byte}
    {out : Byte → Bool} {effect : State → Byte → State → Prop} (after : Byte → State → State)
    (hf : ∀ c v, f c v = (value c v, out v))
    (hx : ∀ g ∈ forms, (∀ s, exec g.1 s = plain g.1 (shiftMem f g.2 after) s) ∧ g.1.len - 1 = operandBytes g.2)
    (hr : ∀ v t, RegsOnly t (after v t))
    (he : ∀ (s w : State) (m : Byte) (q : Addr), w.Regs s.a s.x s.y s.sp → s.Shifted (out m) (value s.flagC m) w →
      effect s m ((after (value s.flagC m) w).setPc q)) : Modifies forms value effect := by
  refine modifies_intro (fun m t => (f t.flagC m).1) (fun m t => after (f t.flagC m).1 (shiftFlags (f t.flagC m) t)) hx
    (fun u m => congrArg Prod.fst (hf u.flagC m)) (fun _ _ => hr _ _) fun s u m q h => ?_
  rw [hf, flagC_of_p h.p]
  exact he s _ m q ⟨h.a, h.x, h.y, h.sp⟩ (shifted_of (by rw [shiftFlags_p, h.p]))

/-- The case of a shift whose result is then combined with A by `op`, Z and N taken from it. -/
theorem modifies_shiftAccumulate_intro {forms : List (Instr × DataMode)} {f : Bool → Byte → Byte × Bool}
    {value : Bool → Byte → Byte} {out : Byte → Bool} (op : Byte → Byte → Byte) (hf : ∀ c v, f c v = (value c v, out v))
    (hx : ∀ g ∈ forms, (∀ s, exec g.1 s = plain g.1 (shiftMem f g.2 fun v t => (t.setA (op t.a v)).setZN (op t.a v)) s) ∧
      g.1.len - 1 = operandBytes g.2) :
    Modifies forms value (fun s m t => t.Regs (op s.a (value s.flagC m)) s.x s.y s.sp ∧
      s.Shifted (out m) (op s.a (value s.flagC m)) t) := by
  refine modifies_shiftThen_intro _ hf hx (fun _ _ => rfl) fun s w m q ⟨ha, hx, hy, hsp⟩ hshift => ?_
  rw [← ha]
  exact ⟨⟨rfl, hx, hy, hsp⟩, hshift.then_setZN (znOnly_of rfl)⟩

/-- The introduction of `Modifies` for a write of `result` of the operand, then `after` on it: `after` starts from a state whose
registers are those of the start and whose P has Z and N of the result (R305, R306). -/
theorem modifies_setZNThen_intro {forms : List (Instr × DataMode)} {effect : State → Byte → State → Prop}
    (result : Byte → Byte) (after : Byte → State → State)
    (hx : ∀ g ∈ forms, (∀ s, exec g.1 s = plain g.1 (modifyOperand g.2 (fun m _ => result m)
      fun m t => after (result m) (t.setZN (result m))) s) ∧ g.1.len - 1 = operandBytes g.2)
    (hr : ∀ v t, RegsOnly t (after v t))
    (he : ∀ (s w : State) (m : Byte) (q : Addr), w.Regs s.a s.x s.y s.sp → s.ZNOnly (result m) w →
      effect s m ((after (result m) w).setPc q)) : Modifies forms (fun _ m => result m) effect :=
  modifies_intro _ _ hx (fun _ _ => rfl) (fun _ _ => hr _ _) fun s _ m q h =>
    he s _ m q ⟨h.a, h.x, h.y, h.sp⟩ (znOnly_of (congrArg (znOf (result m)) h.p))

/-- Settles O29: the three differ in their shift and in the operation on A; the second step keeps the shift's C. -/
theorem shiftComposites : Obligations.ShiftComposites := by
  refine ⟨modifies_shiftAccumulate_intro (· ||| ·) aslVal_eq ?slo, modifies_shiftAccumulate_intro (· &&& ·) rolVal_eq ?rla,
    modifies_shiftAccumulate_intro (· ^^^ ·) lsrVal_eq ?sre⟩
  case slo | rla | sre =>
    intro g hg
    fin_cases hg <;> exact ⟨fun _ => rfl, rfl⟩

/-- Settles O30: the addition takes the C that the rotate left (R304), the compare and the subtraction the P of the decrement and
the increment, whose C is that of the start (R305, R306). -/
theorem arithmeticComposites : Obligations.ArithmeticComposites := by
  simp only [Obligations.ArithmeticComposites, ← inc_eq, ← dec_eq]
  refine ⟨modifies_shiftThen_intro addCore rorVal_eq ?rraForms (fun _ _ => rfl)
      fun s w m q ⟨ha, hx, hy, hsp⟩ hshift => ⟨⟨rfl, hx, hy, hsp⟩, ?rra⟩,
    modifies_setZNThen_intro (· - 1) (fun v t => cmpCore t.a v t) ?dcpForms (fun _ _ => rfl)
      fun s w m q ⟨ha, hx, hy, hsp⟩ hzn => ⟨⟨ha, hx, hy, hsp⟩, ?dcp⟩,
    modifies_setZNThen_intro (· + 1) (fun v t => addCore (~~~v) t) ?isbForms (fun _ _ => rfl)
      fun s w m q ⟨ha, hx, hy, hsp⟩ hzn => ⟨⟨rfl, hx, hy, hsp⟩, subtracted_of ?isb⟩⟩
  case rraForms | dcpForms | isbForms =>
    intro g hg
    fin_cases hg <;> exact ⟨fun _ => rfl, rfl⟩
  case rra =>
    obtain ⟨hC, -, hkept⟩ := hshift
    rw [← ha, ← hC]
    exact ((CpuSame.refl w).added_addCore _ q).of_keepsFlags (hkept.mono (by decide))
  case dcp =>
    rw [← ha]
    exact (compared_of rfl).of_keepsFlags (hzn.2.mono (by decide))
  case isb =>
    rw [← ha, ← hzn.flagC]
    exact ((CpuSame.refl w).added_addCore _ q).of_keepsFlags (hzn.2.mono (by decide))

/-! ### LAX and SAX -/

/-- The introduction of `Reads` for a load of the operand into A, then of A into X (R307, R318). -/
theorem reads_loadAX_intro {forms : List (Instr × DataMode)}
    (hx : ∀ f ∈ forms, (∀ s, exec f.1 s = plain f.1 (readOperand f.2 fun v t => (((t.setA v).setZN v).setX v).setZN v) s) ∧
      f.1.len - 1 = operandBytes f.2) :
    Reads forms (fun s m t => t.Regs m m s.y s.sp ∧ s.ZNOnly m t) := by
  refine reads_intro _ hx (fun _ _ => rfl) fun s u m q h => ⟨⟨rfl, rfl, h.y, h.sp⟩, ?_⟩
  have hload : s.ZNOnly m ((u.setA m).setZN m) := znOnly_of (congrArg (znOf m) h.p)
  exact hload.trans (znOnly_of rfl)

/-- Settles O31: LAX sets Z and N twice, from one byte; SAX stores a byte made of registers that the operand's reads kept. -/
theorem laxAndSax : Obligations.LaxAndSax := by
  refine ⟨reads_loadAX_intro ?lax, stores_intro (fun _ t => t.a &&& t.x) ?sax
    (fun _ _ _ h => congrArg₂ (· &&& ·) h.a h.x) fun _ _ ha hx hy hsp hp => ⟨⟨ha, hx, hy, hsp⟩, hp⟩⟩
  case lax | sax =>
    intro f hf
    fin_cases hf <;> exact ⟨fun _ => rfl, rfl⟩

/-! ### The immediate composites -/

theorem bitOf_eq_decide (v : Byte) (k : Nat) : bitOf v k = decide (v.toNat / 2 ^ k % 2 = 1) :=
  Nat.testBit_eq_decide_div_mod_eq

theorem andCore_znOnly {s u : State} (hp : u.p = s.p) (m : Byte) : s.ZNOnly (u.a &&& m) (andCore m u) :=
  znOnly_of (congrArg (znOf (u.a &&& m)) hp)

/-- The P of ANC is that of a shift with bit 7 of A AND the operand as its carry out (R309). -/
theorem ancFlags_p (m : Byte) (s : State) : ((andCore m s).setFlag bitC (andCore m s).flagN).p =
    znOf (s.a &&& m) (putBit s.p bitC (decide (128 ≤ (s.a &&& m).toNat))) := by
  obtain ⟨⟨-, hN⟩, -⟩ : s.ZNOnly (s.a &&& m) (andCore m s) := andCore_znOnly rfl m
  rw [hN]
  exact putBit_znOf _ _ _ _ (by decide) (by decide) (by decide)

/-- Each bit of P after the last steps of ARR: C is bit 6 of A, V says that bits 6 and 5 differ, the rest as before (R311). -/
theorem bitOf_arrFlags (s : State) (k : Nat) : bitOf (arrFlags s).p k =
    if bitV = k then decide (s.a.toNat / 64 % 2 ≠ s.a.toNat / 32 % 2)
    else if bitC = k then decide (s.a.toNat / 64 % 2 = 1) else bitOf s.p k := by
  have hxor : (bitOf s.a 6 ^^ bitOf s.a 5) = decide (s.a.toNat / 64 % 2 ≠ s.a.toNat / 32 % 2) := by
    rw [bitOf_eq_decide, bitOf_eq_decide, ← Bool.bne_eq_xor, Bool.eq_iff_iff, bne_iff_ne, Ne, decide_eq_decide, decide_eq_true_iff]
    omega
  have hbit6 : bitOf s.a 6 = decide (s.a.toNat / 64 % 2 = 1) := bitOf_eq_decide s.a 6
  have hp : (arrFlags s).p = putBit (putBit s.p bitC (bitOf s.a 6)) bitV (bitOf s.a 6 ^^ bitOf s.a 5) := rfl
  rw [hp, bitOf_putBit _ _ _ _ (by decide), bitOf_putBit _ _ _ _ (by decide), hxor, hbit6]

theorem arrFlags_keepsFlags (s : State) : s.KeepsFlags [bitC, bitV] (arrFlags s) := by
  intro k hk
  simp only [List.mem_cons, List.not_mem_nil, or_false, not_or] at hk
  obtain ⟨hC, hV⟩ := hk
  exact (bitOf_arrFlags s k).trans (by rw [if_neg (Ne.symm hV), if_neg (Ne.symm hC)]; rfl)

/-- The middle step of ARR, between its AND and `arrFlags`: A rotated, Z and N from the result (R311). -/
def arrRotated (s : State) : State := (s.setA (rorVal s.flagC s.a).1).setZN (rorVal s.flagC s.a).1

theorem arrRotated_a (s : State) : (arrRotated s).a = rotatedDown s.flagC s.a := congrArg Prod.fst (rorVal_eq s.flagC s.a)

theorem arrRotated_znOnly (s : State) : s.ZNOnly (arrRotated s).a (arrRotated s) := znOnly_of rfl

/-- Settles O32: ANC, ALR and ARR set Z and N by their AND first; what follows it in ALR and ARR leaves flags of its own. -/
theorem immediateComposites : Obligations.ImmediateComposites := by
  refine ⟨reads_intro (fun v t => (andCore v t).setFlag bitC (andCore v t).flagN) ?ancForms (fun _ _ => rfl)
      fun s u m q h => ?anc,
    reads_intro (fun v t => shiftAcc lsrVal (andCore v t)) ?alrForms (fun _ _ => rfl) fun s u m q h => ?alr,
    reads_intro (fun v t => arrFlags (arrRotated (andCore v t))) ?arrForms (fun _ _ => rfl) fun s u m q h => ?arr,
    reads_intro (fun v t => (cmpCore (t.a &&& t.x) v t).setX ((t.a &&& t.x) - v)) ?axsForms (fun _ _ => rfl)
      fun s u m q h => ?axs⟩
  case ancForms | alrForms | arrForms | axsForms =>
    intro f hf
    fin_cases hf <;> exact ⟨fun _ => rfl, rfl⟩
  case anc =>
    rw [← h.a]
    exact ⟨⟨rfl, h.x, h.y, h.sp⟩, shifted_of (by rw [← h.p]; exact ancFlags_p m u)⟩
  case alr =>
    have hshift : (andCore m u).Shifted (decide ((u.a &&& m).toNat % 2 = 1)) (halved false (u.a &&& m))
        ((shiftAcc lsrVal (andCore m u)).setPc q) := by
      rw [shiftAcc, lsrVal_eq]
      exact shifted_shiftFlags rfl _ _ q
    rw [← h.a]
    exact ⟨⟨congrArg Prod.fst (lsrVal_eq false _), h.x, h.y, h.sp⟩, hshift.of_znOnly (andCore_znOnly h.p m)⟩
  case arr =>
    have hand := andCore_znOnly h.p m
    obtain ⟨⟨hZ, hN⟩, hkept⟩ := hand.trans (arrRotated_znOnly (andCore m u))
    have hbit := bitOf_arrFlags (arrRotated (andCore m u))
    rw [← h.a, ← hand.flagC]
    exact ⟨⟨arrRotated_a (andCore m u), h.x, h.y, h.sp⟩, hbit bitC, hbit bitV,
      ⟨(hbit bitZ).trans hZ, (hbit bitN).trans hN⟩, (hkept.mono (by decide)).trans ((arrFlags_keepsFlags _).mono (by decide))⟩
  case axs =>
    rw [← h.a, ← h.x]
    exact ⟨⟨rfl, rfl, h.y, h.sp⟩, compared_of (by rw [← h.p]; rfl)⟩

/-! ### SP plays no part in a Bus access

TAS sets SP before its write (R321), so that its write starts from another state than the one `Stores` speaks of. -/

theorem invalidAccess_setSp (k : InvalidKind) (a : Addr) (n : Byte) (s : State) :
    invalidAccess k a (s.setSp n) = (invalidAccess k a s).setSp n := by
  have hcfg : (s.setSp n).cfg.strict = s.cfg.strict := rfl
  unfold invalidAccess
  rw [hcfg, State.setSp_stop]
  split_ifs
  · cases s.stop <;> rfl
  · rfl

theorem ppuReadData_setSp (n : Byte) (s : State) :
    ppuReadData (s.setSp n) = Prod.map id (State.setSp n) (ppuReadData s) := by
  simp only [ppuReadData, apply_ite (Prod.map id (State.setSp n))]
  rfl

theorem ppuWrite_setSp (a : PpuAddr) (v n : Byte) (s : State) : ppuWrite a v (s.setSp n) = (ppuWrite a v s).setSp n := by
  simp only [ppuWrite, apply_ite (State.setSp n)]
  rfl

theorem ppuWriteData_setSp (v n : Byte) (s : State) : ppuWriteData v (s.setSp n) = (ppuWriteData v s).setSp n := by
  simp only [ppuWriteData, ppuWrite_setSp, State.setSp_ppu]
  rfl

theorem ppuRegRead_setSp (a : Addr) (n : Byte) (s : State) :
    ppuRegRead a (s.setSp n) = Prod.map id (State.setSp n) (ppuRegRead a s) := by
  simp only [ppuRegRead, ppuReadData_setSp, invalidAccess_setSp, apply_ite (Prod.map id (State.setSp n))]
  rfl

theorem busRead_setSp (a : Addr) (n : Byte) (s : State) :
    busRead a (s.setSp n) = Prod.map id (State.setSp n) (busRead a s) := by
  simp only [busRead, ppuRegRead_setSp, apply_ite (Prod.map id (State.setSp n))]
  rfl

theorem busReadRun_setSp (n : Byte) : ∀ (k : Nat) (a : Addr) (s : State),
    busReadRun k a (s.setSp n) = Prod.map id (State.setSp n) (busReadRun k a s)
  | 0, _, _ => rfl
  | k + 1, a, s => by
    rw [busReadRun, busRead_setSp, Prod.map_snd, busReadRun_setSp n k]
    rfl

/-- The second half of OamDma, given the bytes that its reads yield and the state after them: they go to OAM in turn (R430). -/
def dmaWrites (r : List Byte × State) : State := { r.2 with ppu := r.1.foldl (fun p b => p.writeOamData b) r.2.ppu }

theorem oamDma_eq (v : Byte) (s : State) : oamDma v s = dmaWrites (busReadRun 256 (wordOf 0x00 v) s) := rfl

theorem dmaWrites_setSp (n : Byte) (r : List Byte × State) :
    dmaWrites (Prod.map id (State.setSp n) r) = (dmaWrites r).setSp n := rfl

theorem oamDma_setSp (v n : Byte) (s : State) : oamDma v (s.setSp n) = (oamDma v s).setSp n := by
  rw [oamDma_eq, oamDma_eq, busReadRun_setSp, dmaWrites_setSp]

theorem ppuRegWrite_setSp (a : Addr) (v n : Byte) (s : State) : ppuRegWrite a v (s.setSp n) = (ppuRegWrite a v s).setSp n := by
  simp only [ppuRegWrite, ppuWriteData_setSp, invalidAccess_setSp, apply_ite (State.setSp n)]
  rfl

theorem busWrite_setSp (a : Addr) (v n : Byte) (s : State) : busWrite a v (s.setSp n) = (busWrite a v s).setSp n := by
  simp only [busWrite, ppuRegWrite_setSp, oamDma_setSp, invalidAccess_setSp, apply_ite (State.setSp n)]
  rfl

/-! ### The unstable opcodes -/

theorem hiByte_eq (w : Addr) : hiByte w = BitVec.ofNat 8 (w.toNat / 256) := by
  rw [← hiByte_toNat, BitVec.ofNat_toNat, BitVec.setWidth_eq]

theorem hiByte_add_one (w : Addr) : hiByte w + 1 = BitVec.ofNat 8 (w.toNat / 256 + 1) := by rw [inc_eq, hiByte_toNat]

/-- The byte that TAS stores (R321). -/
def tasByte (s : State) (ea : Addr) : Byte := BitVec.ofNat 8 (ea.toNat / 256 + 1) &&& (s.a &&& s.x)

/-- TAS sets SP before its write, which is the same write with SP set after it (R321). -/
theorem tasRule_eq (m : DataMode) (s : State) : tasRule m s =
    (busWrite (effAddr m s).1 (tasByte s (effAddr m s).1) (effAddr m s).2).setSp (s.a &&& s.x) := by
  have h := effAddr_cpuSame m s
  unfold tasRule tasByte
  dsimp only
  rw [busWrite_setSp, State.setSp_sp, hiByte_add_one, h.a, h.x]

/-- The store of TAS, with SP changed beside it. -/
theorem stores_tas : Stores [(.tasAby, .aby)] tasByte (fun s t => t.Regs s.a s.x s.y (s.a &&& s.x) ∧ t.p = s.p) := by
  intro f hf s hs hw
  obtain rfl := List.mem_singleton.mp hf
  have hread := effAddr_cpuSame .aby s
  have hx : exec .tasAby s = plain .tasAby (tasRule .aby) s := rfl
  have hframe := storeFrame_of_write (effAddr .aby s).1 (tasByte s (effAddr .aby s).1) hw (effAddr_ram .aby s)
    (effAddr_ppuSame .aby s) hread.cfg
  have hwrite := hread.trans (busWrite_cpuSame (effAddr .aby s).1 (tasByte s (effAddr .aby s).1) (effAddr .aby s).2)
  have hstop : (tasRule .aby s).stop = none := by
    rw [tasRule_eq, State.setSp_stop, busWrite_stop _ _ _ (by rw [hread.cfg]; exact hs.1), effAddr_stop _ _ hs.1]
    exact hs.2
  refine ⟨_, hx.trans (plain_next _ _ _ hstop), ?_⟩
  rw [tasRule_eq] at hstop ⊢
  generalize busWrite (effAddr .aby s).1 (tasByte s (effAddr .aby s).1) (effAddr .aby s).2 = w at *
  exact ⟨⟨⟨hwrite.a, hwrite.x, hwrite.y, rfl⟩, hwrite.p⟩, congrArg (· + 2) hwrite.pc, hwrite.halted, hframe,
    ⟨hwrite.cycles, hwrite.cfg, hwrite.input, hstop⟩, ⟨rfl, rfl, rfl, rfl⟩⟩

/-- Settles O33: XAA's setting of Z and N from X is gone after its AND; each masked byte is made of the high byte of the effective
address and of registers that the operand's reads kept. -/
theorem unstableOpcodes : Obligations.UnstableOpcodes := by
  have kept (s t : State) (ha : t.a = s.a) (hx : t.x = s.x) (hy : t.y = s.y) (hsp : t.sp = s.sp) (hp : t.p = s.p) :
      t.Regs s.a s.x s.y s.sp ∧ t.p = s.p := ⟨⟨ha, hx, hy, hsp⟩, hp⟩
  refine ⟨reads_loadAX_intro ?lxa,
    reads_intro (fun v t => andCore v ((t.setA t.x).setZN t.x)) ?xaaForms (fun _ _ => rfl) fun s u m q h => ?xaa,
    reads_intro (fun b t => (((t.setA (b &&& t.sp)).setX (b &&& t.sp)).setSp (b &&& t.sp)).setZN (b &&& t.sp)) ?lasForms
      (fun _ _ => rfl) fun s u m q h => ?las,
    stores_tas,
    stores_intro (fun ea t => t.a &&& t.x &&& hiByte ea) ?ahxForms (fun s u ea h => ?ahx) kept,
    stores_intro (fun ea t => t.x &&& (hiByte ea + 1)) ?shxForms (fun s u ea h => ?shx) kept,
    stores_intro (fun ea t => t.y &&& (hiByte ea + 1)) ?shyForms (fun s u ea h => ?shy) kept⟩
  case lxa | xaaForms | lasForms | ahxForms | shxForms | shyForms =>
    intro f hf
    fin_cases hf <;> exact ⟨fun _ => rfl, rfl⟩
  case xaa =>
    have hload : s.ZNOnly u.x ((u.setA u.x).setZN u.x) := znOnly_of (congrArg (znOf u.x) h.p)
    rw [← h.x]
    exact ⟨⟨rfl, rfl, h.y, h.sp⟩, hload.trans (andCore_znOnly rfl m)⟩
  case las =>
    rw [← h.sp]
    exact ⟨⟨rfl, rfl, h.y, rfl⟩, znOnly_of (congrArg (znOf (m &&& u.sp)) h.p)⟩
  case ahx => rw [h.a, h.x, hiByte_eq]
  case shx => rw [h.x, hiByte_add_one]
  case shy => rw [h.y, hiByte_add_one]

end Sys2Proof.Machine
end

section
/-! PROOFS of the family 47_ppu_registers.md. The PPU's position in the frame moves in a tick alone (`Moves.position`), so the
lock of the clocks is kept by all that a step is made of. A tick of at most one scanline runs one of the three equations of
`nextScanline`. Each register access in the window has its equation (`busWrite_ctrl` and the like), through every mirror, and
the data port has one equation for each region of the PPU's address space. -/
namespace Sys2Proof.Machine

/-! ### The lock of the two clocks (47_ppu_registers.md R354) -/

/-- Where the PPU stands in the frame: its cycle and its scanline (10_state.md R39). -/
def Ppu.position (p : Ppu) : Nat × Nat := (p.cycle, p.scanline)

theorem PpuReadSame.position {p q : Ppu} (h : PpuReadSame p q) : q.position = p.position := Prod.ext h.cycle h.scanline

theorem position_writeScroll (v : Byte) (p : Ppu) : (p.writeScroll v).position = p.position := by
  unfold Ppu.writeScroll
  split_ifs <;> rfl

theorem position_writeAddr (v : Byte) (p : Ppu) : (p.writeAddr v).position = p.position := by
  unfold Ppu.writeAddr
  split_ifs <;> rfl

theorem position_ppuWriteData (v : Byte) (s : State) : (ppuWriteData v s).ppu.position = s.ppu.position := by
  have hw : (ppuWrite s.ppu.addrValue v s).ppu.position = s.ppu.position := by
    unfold ppuWrite
    split_ifs <;> rfl
  exact hw

theorem position_foldl_writeOamData : ∀ (bytes : List Byte) (p : Ppu),
    (bytes.foldl (fun p b => p.writeOamData b) p).position = p.position
  | [], _ => rfl
  | b :: bytes, p => position_foldl_writeOamData bytes (p.writeOamData b)

theorem position_dmaWrites (r : List Byte × State) : (dmaWrites r).ppu.position = r.2.ppu.position :=
  position_foldl_writeOamData r.1 r.2.ppu

theorem position_oamDma (v : Byte) (s : State) : (oamDma v s).ppu.position = s.ppu.position := by
  rw [oamDma_eq, position_dmaWrites]
  exact (busReadRun_ppuSame 256 (wordOf 0x00 v) s).position

theorem position_invalidAccess (k : InvalidKind) (a : Addr) (s : State) :
    (invalidAccess k a s).ppu.position = s.ppu.position := congrArg Ppu.position (invalidAccess_devices k a s).2.1

/-- No Bus write moves the PPU in the frame. -/
theorem position_busWrite (a : Addr) (v : Byte) (s : State) : (busWrite a v s).ppu.position = s.ppu.position := by
  rcases busWrite_effect a v s with e | e | e | e | e | e | e | e | e | e | e | e | e | e <;> rw [e]
  · rfl
  · rfl
  · exact position_invalidAccess .writeStatus a s
  · rfl
  · rfl
  · exact position_writeScroll v s.ppu
  · exact position_writeAddr v s.ppu
  · exact position_ppuWriteData v s
  · exact position_oamDma v s
  · rfl
  · exact position_invalidAccess .writeRom a s

/-- No part of an instruction moves the PPU in the frame. -/
theorem Moves.position {s t : State} (m : Moves s t) : t.ppu.position = s.ppu.position := by
  induction m with
  | refl => rfl
  | trans _ _ h k => exact k.trans h
  | read a s => exact (busRead_ppuSame a s).position
  | write a v s => exact position_busWrite a v s
  | regs => rfl
  | flags => rfl

/-- The lock speaks of the position and the cycle count alone. -/
theorem State.ClockLocked.of_eq {s t : State} (h : s.ClockLocked) (hp : t.ppu.position = s.ppu.position)
    (hc : t.cycles = s.cycles) : t.ClockLocked := by
  obtain ⟨hcycle, hscanline⟩ := Prod.ext_iff.mp hp
  unfold State.ClockLocked
  rw [hc]
  exact ⟨hcycle.trans h.1, hscanline.trans h.2⟩

/-- A tick of `n` CPU cycles moves the PPU by `3 * n` (20_memory.md R110). -/
theorem State.ClockLocked.busTick {s : State} (n : Nat) (h : s.ClockLocked) : (busTick n s).ClockLocked := by
  have ht := busTick_ticked n s
  obtain ⟨hcycle, hscanline⟩ := h
  have hl : s.ppu.scanline < 262 := by omega
  have hlines : 3 * (s.cycles + n) / 341 = 3 * s.cycles / 341 + (s.ppu.cycle + 3 * n) / 341 := by omega
  unfold State.ClockLocked
  rw [ht.ppu, ht.cycles, tick_cycle _ hl, tick_scanline _ hl]
  omega

theorem stepClosed_clockLocked : StepClosed State.ClockLocked where
  poll h := h
  moves m h := h.of_eq m.position m.keeps.2.1
  tick n h := h.busTick n
  record _ h := h
  halt h := h

/-- Settles O59: the position moves in a tick alone, and there with the cycle count. -/
theorem stepKeepsTheClocksLocked : Obligations.StepKeepsTheClocksLocked := fun _ _ => stepClosed_clockLocked.keeps_step

/-! ### A tick (47_ppu_registers.md R351 to R353) -/

/-- The first of vblank. -/
theorem nextScanline_of_241 {p : Ppu} (h : p.scanline + 1 = 241) :
    p.nextScanline = (Ppu.scanline241 { p with cycle := p.cycle - 341, scanline := 241 }, false) := by
  simp [Ppu.nextScanline, Ppu.scanline241, h]

/-- The first of the next frame. -/
theorem nextScanline_of_ge {p : Ppu} (h : 262 ≤ p.scanline + 1) :
    p.nextScanline = (Ppu.scanline262 { p with cycle := p.cycle - 341, scanline := p.scanline + 1 }, true) := by
  have h' : p.scanline + 1 ≠ 241 := by omega
  unfold Ppu.nextScanline
  simp only [if_neg h', if_pos h]

/-- Any other scanline. -/
theorem nextScanline_of_lt {p : Ppu} (h : p.scanline + 1 ≠ 241) (h' : p.scanline + 1 < 262) :
    p.nextScanline = ({ p with cycle := p.cycle - 341, scanline := p.scanline + 1 }, false) := by
  unfold Ppu.nextScanline
  simp only [if_neg h, if_neg (Nat.not_le.mpr h')]

theorem getLsbD_putBit_of_ne (v : Byte) {i j : Nat} (on : Bool) (hi : i < 8) (h : j ≠ i) :
    (putBit v i on).getLsbD j = v.getLsbD j := (bitOf_putBit v i j on hi).trans (if_neg h.symm)

theorem getLsbD_putBit_same (v : Byte) {i : Nat} (on : Bool) (hi : i < 8) : (putBit v i on).getLsbD i = on :=
  (bitOf_putBit v i i on hi).trans (if_pos rfl)

/-- Status on the first scanline of vblank (R352). -/
theorem scanline241_status (p : Ppu) : p.scanline241.vblank = true ∧ p.scanline241.spriteZeroHit = false ∧
    ∀ k, k ≠ 6 → k ≠ 7 → p.scanline241.status.getLsbD k = p.status.getLsbD k :=
  ⟨(getLsbD_putBit_of_ne _ _ (by decide) (by decide)).trans (getLsbD_putBit_same _ _ (by decide)),
    getLsbD_putBit_same _ _ (by decide),
    fun _ h6 h7 => (getLsbD_putBit_of_ne _ _ (by decide) h6).trans (getLsbD_putBit_of_ne _ _ (by decide) h7)⟩

/-- Status after the end of a frame (R353). -/
theorem scanline262_status (p : Ppu) : p.scanline262.vblank = false ∧ p.scanline262.spriteZeroHit = false ∧
    ∀ k, k ≠ 6 → k ≠ 7 → p.scanline262.status.getLsbD k = p.status.getLsbD k :=
  ⟨getLsbD_putBit_same _ _ (by decide),
    (getLsbD_putBit_of_ne _ _ (by decide) (by decide)).trans (getLsbD_putBit_same _ _ (by decide)),
    fun _ h6 h7 => (getLsbD_putBit_of_ne _ _ (by decide) h7).trans (getLsbD_putBit_of_ne _ _ (by decide) h6)⟩

/-- Settles O42: the tick runs no round of its loop or one, and the scanline entered selects the event of that round. -/
theorem ppuClock : Obligations.PpuClock := by
  intro p n hc hn
  refine ⟨tick_within, fun h => ?_⟩
  have hq := tick_across h (by omega)
  by_cases h1 : p.scanline + 1 = 241
  · rw [hq.trans (nextScanline_of_241 h1)]
    obtain ⟨hv, hz, hk⟩ := scanline241_status { p with cycle := p.cycle + n - 341, scanline := 241 }
    exact ⟨rfl, hk, fun _ => ⟨rfl, hv, hz, rfl, rfl⟩, by omega, by omega⟩
  by_cases h2 : 262 ≤ p.scanline + 1
  · rw [hq.trans (nextScanline_of_ge h2)]
    obtain ⟨hv, hz, hk⟩ := scanline262_status { p with cycle := p.cycle + n - 341, scanline := p.scanline + 1 }
    exact ⟨rfl, hk, by omega, fun _ => ⟨rfl, hv, hz, rfl, rfl⟩, by omega⟩
  · rw [hq.trans (nextScanline_of_lt h1 (Nat.not_le.mp h2))]
    exact ⟨rfl, fun _ _ _ => rfl, by omega, by omega, fun _ _ => ⟨rfl, rfl, rfl, rfl⟩⟩

/-! ### The registers of the window (section 2) -/

/-- A write of any register but Status, through any mirror, is the write of that register (20_memory.md R77). -/
theorem busWrite_mirror {a : Addr} {k : Nat} (v : Byte) (s : State) (h : 0x2000 ≤ a.toNat) (h' : a.toNat < 0x4000)
    (hk : a.toNat % 8 = k) (h2 : k ≠ 2) : busWrite a v s = busWrite (BitVec.ofNat 16 (0x2000 + k)) v s := by
  subst hk
  exact (sameRegister_first h h').busWrite_eq v s h2

/-- A read of Status, OAM data or the data port, through any mirror, is the read of that register. -/
theorem busRead_mirror {a : Addr} {k : Nat} (s : State) (h : 0x2000 ≤ a.toNat) (h' : a.toNat < 0x4000)
    (hk : a.toNat % 8 = k) (h2 : k = 2 ∨ k = 4 ∨ k = 7) : busRead a s = busRead (BitVec.ofNat 16 (0x2000 + k)) s := by
  subst hk
  exact (sameRegister_first h h').busRead_eq s h2

section
variable {a : Addr} (v : Byte) (s : State) (h : 0x2000 ≤ a.toNat) (h' : a.toNat < 0x4000)
include h h'

theorem busWrite_ctrl (hk : a.toNat % 8 = 0) : busWrite a v s = { s with ppu := s.ppu.writeCtrl v } :=
  busWrite_mirror v s h h' hk (by decide)

theorem busWrite_mask (hk : a.toNat % 8 = 1) : busWrite a v s = { s with ppu := s.ppu.writeMask v } :=
  busWrite_mirror v s h h' hk (by decide)

theorem busWrite_oamAddr (hk : a.toNat % 8 = 3) : busWrite a v s = { s with ppu := s.ppu.writeOamAddr v } :=
  busWrite_mirror v s h h' hk (by decide)

theorem busWrite_oamData (hk : a.toNat % 8 = 4) : busWrite a v s = { s with ppu := s.ppu.writeOamData v } :=
  busWrite_mirror v s h h' hk (by decide)

theorem busWrite_scroll (hk : a.toNat % 8 = 5) : busWrite a v s = { s with ppu := s.ppu.writeScroll v } :=
  busWrite_mirror v s h h' hk (by decide)

theorem busWrite_addr (hk : a.toNat % 8 = 6) : busWrite a v s = { s with ppu := s.ppu.writeAddr v } :=
  busWrite_mirror v s h h' hk (by decide)

theorem busWrite_data (hk : a.toNat % 8 = 7) : busWrite a v s = ppuWriteData v s :=
  busWrite_mirror v s h h' hk (by decide)

theorem busRead_status (hk : a.toNat % 8 = 2) :
    busRead a s = (s.ppu.status, { s with ppu := s.ppu.readStatus.2 }) := busRead_mirror s h h' hk (by decide)

theorem busRead_oamData (hk : a.toNat % 8 = 4) : busRead a s = (s.ppu.readOamData, s) :=
  busRead_mirror s h h' hk (by decide)

theorem busRead_data (hk : a.toNat % 8 = 7) : busRead a s = ppuReadData s := busRead_mirror s h h' hk (by decide)

end

theorem writeScroll_of_x {p : Ppu} (v : Byte) (h : p.scrollYNext = false) :
    p.writeScroll v = { p with scrollX := v, scrollYNext := true } := by
  unfold Ppu.writeScroll
  rw [h]
  rfl

theorem writeScroll_of_y {p : Ppu} (v : Byte) (h : p.scrollYNext = true) :
    p.writeScroll v = { p with scrollY := v, scrollYNext := false } := by
  unfold Ppu.writeScroll
  rw [h]
  rfl

/-- Settles O44: each write is one register's, and Scroll's latch selects its half. -/
theorem ppuRegisterWrites : Obligations.PpuRegisterWrites := fun _ v s h h' =>
  ⟨busWrite_ctrl v s h h', busWrite_mask v s h h',
    fun hk hx => by rw [busWrite_scroll v s h h' hk, writeScroll_of_x v hx],
    fun hk hy => by rw [busWrite_scroll v s h h' hk, writeScroll_of_y v hy]⟩

/-- Settles O45: the read clears bit 7 of Status, and the read after it returns what it left. -/
theorem statusRead : Obligations.StatusRead := by
  intro a s h h' hk
  rw [busRead_status s h h' hk]
  exact ⟨rfl, getLsbD_putBit_same _ _ (by decide), fun _ h7 => getLsbD_putBit_of_ne _ _ (by decide) h7, rfl,
    congrArg Prod.fst (busRead_status _ h h' hk)⟩

/-! ### The address register (R365) -/

/-- A 14-bit address put together from a high part and a low byte. -/
theorem toNat_shiftLeft_or (hi lo : PpuAddr) (h : lo.toNat < 256) :
    ((hi <<< 8) ||| lo).toNat = hi.toNat % 64 * 256 + lo.toNat := by
  have hshift : hi.toNat * 2 ^ 8 % 2 ^ 14 = 2 ^ 8 * (hi.toNat % 64) := by omega
  rw [BitVec.toNat_or, BitVec.toNat_shiftLeft, Nat.shiftLeft_eq, hshift, ← Nat.two_pow_add_eq_or_of_lt h]
  omega

theorem toNat_byte_setWidth (v : Byte) : (v.setWidth 14).toNat = v.toNat :=
  BitVec.toNat_setWidth_of_le (by decide)

theorem toNat_and_low (x : PpuAddr) : (x &&& 0x00FF#14).toNat = x.toNat % 256 :=
  Nat.and_two_pow_sub_one_eq_mod x.toNat 8

theorem and_high_eq (x : PpuAddr) : x &&& 0x3F00#14 = (x >>> 8) <<< 8 := by
  rw [BitVec.shiftLeft_ushiftRight]
  rfl

/-- The first write: the low six bits of the byte become bits 13 to 8. -/
theorem writeAddr_of_hi {p : Ppu} (v : Byte) (h : p.addrHiNext = true) :
    p.writeAddr v = { p with addrValue := (p.writeAddr v).addrValue, addrHiNext := false } ∧
    (p.writeAddr v).addrValue.toNat = v.toNat % 64 * 256 + p.addrValue.toNat % 256 := by
  unfold Ppu.writeAddr
  rw [h]
  refine ⟨rfl, (toNat_shiftLeft_or _ _ ?_).trans ?_⟩
  · rw [toNat_and_low]
    omega
  · rw [toNat_and_low, toNat_byte_setWidth]

/-- The second write: the byte becomes the low one. -/
theorem writeAddr_of_lo {p : Ppu} (v : Byte) (h : p.addrHiNext = false) :
    p.writeAddr v = { p with addrValue := (p.writeAddr v).addrValue, addrHiNext := true } ∧
    (p.writeAddr v).addrValue.toNat = p.addrValue.toNat / 256 * 256 + v.toNat := by
  have hlt := p.addrValue.isLt
  unfold Ppu.writeAddr
  rw [h, and_high_eq]
  refine ⟨rfl, (toNat_shiftLeft_or _ _ ?_).trans ?_⟩
  · rw [toNat_byte_setWidth]
    exact v.isLt
  · rw [toNat_byte_setWidth, BitVec.toNat_ushiftRight, Nat.shiftRight_eq_div_pow]
    omega

/-- Settles O46: one write replaces the half that the latch selects, and the second finds the latch turned. -/
theorem addressPort : Obligations.AddressPort := by
  intro a h l s hlo hhi hk
  have hw (v : Byte) (u : State) : busWrite a v u = { u with ppu := u.ppu.writeAddr v } := busWrite_addr v u hlo hhi hk
  simp only [hw]
  refine ⟨fun hl => ?_, fun hl => ?_⟩
  · obtain ⟨hframe, hvalue⟩ := writeAddr_of_hi h hl
    have hlatch : (s.ppu.writeAddr h).addrHiNext = false := by rw [hframe]
    obtain ⟨hframe', hvalue'⟩ := writeAddr_of_lo l hlatch
    refine ⟨hvalue, by rw [← hframe], ?_, by rw [hframe']⟩
    rw [hvalue', hvalue]
    omega
  · obtain ⟨hframe, hvalue⟩ := writeAddr_of_lo l hl
    exact ⟨hvalue, by rw [← hframe]⟩

/-! ### The data port (R366 to R371) -/

/-- The address after an access (R366). -/
theorem toNat_incAddr (p : Ppu) :
    p.incAddr.addrValue.toNat = (p.addrValue.toNat + (if p.ctrl.getLsbD 2 then 32 else 1)) % 0x4000 := by
  unfold Ppu.incAddr Ppu.addBig bitOf
  cases p.ctrl.getLsbD 2 <;> exact BitVec.toNat_add _ _

/-- A PPU address as a record shows it (60_exceptions.md R454). -/
theorem logAddr_eq (x : PpuAddr) : x.setWidth 16 = BitVec.ofNat 16 x.toNat := (BitVec.ofNat_toNat 16 x).symm

section
variable {s : State}

/-- CHR and VRAM are read through the buffer, which takes the addressed byte (R367). -/
theorem ppuReadData_buffered (h : s.ppu.addrValue.toNat < 0x3000) : ppuReadData s =
    (s.ppu.dataBuf, { s with ppu := { s.ppu.incAddr with dataBuf := ppuRead s.cfg s.ppu s.ppu.addrValue } }) :=
  if_pos (Nat.le_of_lt_succ h)

theorem ppuReadData_unused (h : 0x3000 ≤ s.ppu.addrValue.toNat) (h' : s.ppu.addrValue.toNat < 0x3F00) : ppuReadData s =
    (0x00, logAt .ppuUnused (s.ppu.addrValue.setWidth 16) { s with ppu := s.ppu.incAddr }) :=
  (if_neg (by omega)).trans (if_pos (by omega))

theorem ppuReadData_palette (h : 0x3F00 ≤ s.ppu.addrValue.toNat) : ppuReadData s =
    (s.ppu.palette.read (palIndex s.ppu.addrValue), { s with ppu := s.ppu.incAddr }) :=
  (if_neg (by omega)).trans (if_neg (by omega))

end

theorem ppuRead_chr (c : Config) (p : Ppu) {x : PpuAddr} (h : x.toNat < 0x2000) : ppuRead c p x = c.chr.read x.toNat :=
  if_pos (Nat.le_of_lt_succ h)

theorem ppuRead_vram (c : Config) (p : Ppu) {x : PpuAddr} (h : 0x2000 ≤ x.toNat) (h' : x.toNat < 0x3000) :
    ppuRead c p x = p.vram.read (vramIndex c.mirroring x) := (if_neg (by omega)).trans (if_pos (by omega))

/-- Settles O47, region by region of the PPU's address space; the buffer changes below 0x3000 alone. -/
theorem dataPortRead : Obligations.DataPortRead := by
  intro a s h h' hk
  have hinc := toNat_incAddr s.ppu
  rw [busRead_data s h h' hk]
  rcases Nat.lt_or_ge s.ppu.addrValue.toNat 0x3000 with hb | hb
  · rw [ppuReadData_buffered hb]
    exact ⟨hinc, rfl, fun _ => ⟨rfl, rfl⟩, fun hl => ppuRead_chr _ _ hl, fun hl hl' => ppuRead_vram _ _ hl hl',
      by omega, by omega, by omega⟩
  rcases Nat.lt_or_ge s.ppu.addrValue.toNat 0x3F00 with hu | hu
  · rw [ppuReadData_unused hb hu, logAddr_eq]
    exact ⟨hinc, rfl, by omega, by omega, by omega, fun _ => rfl, fun _ _ => ⟨rfl, rfl⟩, by omega⟩
  · rw [ppuReadData_palette hu]
    exact ⟨hinc, rfl, by omega, by omega, by omega, fun _ => rfl, by omega, fun _ => ⟨rfl, rfl⟩⟩

section
variable (v : Byte) {s : State}

/-- CHR is not written (R371). -/
theorem ppuWriteData_chr (h : s.ppu.addrValue.toNat < 0x2000) : ppuWriteData v s =
    logAt .chrWrite (s.ppu.addrValue.setWidth 16) { s with ppu := s.ppu.incAddr } := by
  unfold ppuWriteData ppuWrite
  rw [if_pos (by omega)]
  rfl

theorem ppuWriteData_vram (h : 0x2000 ≤ s.ppu.addrValue.toNat) (h' : s.ppu.addrValue.toNat < 0x3000) : ppuWriteData v s =
    { s with ppu := { s.ppu.incAddr with
      vram := s.ppu.vram.write (vramIndex s.cfg.mirroring s.ppu.addrValue) v } } := by
  unfold ppuWriteData ppuWrite
  rw [if_neg (by omega), if_pos (by omega)]
  rfl

theorem ppuWriteData_unused (h : 0x3000 ≤ s.ppu.addrValue.toNat) (h' : s.ppu.addrValue.toNat < 0x3F00) : ppuWriteData v s =
    logAt .ppuUnused (s.ppu.addrValue.setWidth 16) { s with ppu := s.ppu.incAddr } := by
  unfold ppuWriteData ppuWrite
  rw [if_neg (by omega), if_neg (by omega), if_pos (by omega)]
  rfl

theorem ppuWriteData_palette (h : 0x3F00 ≤ s.ppu.addrValue.toNat) : ppuWriteData v s =
    { s with ppu := { s.ppu.incAddr with palette := s.ppu.palette.write (palIndex s.ppu.addrValue) v } } := by
  unfold ppuWriteData ppuWrite
  rw [if_neg (by omega), if_neg (by omega), if_neg (by omega)]
  rfl

end

/-- Settles O48, region by region; the byte read back at each index is `Memory.read_write`. -/
theorem dataPortWrite : Obligations.DataPortWrite := by
  rintro a v s ⟨-, ⟨hvram, -⟩, ⟨hpalette, -⟩, -⟩ h h' hk
  have hinc := toNat_incAddr s.ppu
  rw [busWrite_data v s h h' hk]
  rcases Nat.lt_or_ge s.ppu.addrValue.toNat 0x2000 with hc | hc
  · rw [ppuWriteData_chr v hc, logAddr_eq]
    exact ⟨hinc, rfl, by omega, by omega, fun _ => rfl, fun _ => rfl, fun _ => rfl, by omega, by omega⟩
  rcases Nat.lt_or_ge s.ppu.addrValue.toNat 0x3000 with hv | hv
  · rw [ppuWriteData_vram v hc hv]
    exact ⟨hinc, rfl, fun _ _ k => Memory.read_write _ _ k v hvram, by omega, by omega, fun _ => rfl, by omega, by omega,
      fun _ => rfl⟩
  rcases Nat.lt_or_ge s.ppu.addrValue.toNat 0x3F00 with hu | hu
  · rw [ppuWriteData_unused v hv hu, logAddr_eq]
    exact ⟨hinc, rfl, by omega, by omega, fun _ => rfl, fun _ => rfl, by omega, fun _ _ => rfl, by omega⟩
  · rw [ppuWriteData_palette v hu]
    exact ⟨hinc, rfl, by omega, fun _ k => Memory.read_write _ _ k v hpalette, fun _ => rfl, by omega, by omega, by omega,
      fun _ => rfl⟩

/-! ### Mirroring and palette aliases (section 3) -/

theorem vramIndex_vertical {x : PpuAddr} (h : 0x2000 ≤ x.toNat) (h' : x.toNat < 0x3000) :
    vramIndex .vertical x = x.toNat % 0x800 := by
  unfold vramIndex
  dsimp only
  split_ifs <;> omega

theorem vramIndex_horizontal {x : PpuAddr} (h : 0x2000 ≤ x.toNat) (h' : x.toNat < 0x3000) :
    vramIndex .horizontal x = (x.toNat - 0x2000) / 0x800 * 0x400 + x.toNat % 0x400 := by
  unfold vramIndex
  dsimp only
  split_ifs <;> omega

/-- Each index that is a multiple of 4 in the sprites' half is the background's (R377). -/
theorem palIndex_eq {x : PpuAddr} (h : 0x3F00 ≤ x.toNat) :
    palIndex x = if x.toNat % 4 = 0 then x.toNat % 16 else x.toNat % 32 := by
  unfold palIndex
  dsimp only
  split_ifs <;> omega

/-- Settles O49: in each mode the four nametables fall on two, and four sprite palette indices are the background's. -/
theorem mirroringAndPaletteAlias : Obligations.MirroringAndPaletteAlias :=
  ⟨fun x h h' => ⟨vramIndex_vertical h h', vramIndex_horizontal h h', fun m => vramIndex_lt m (by omega) (by omega)⟩,
    fun x h => ⟨palIndex_eq h, palIndex_lt x⟩⟩

/-! ### The OAM port (section 4) -/

/-- Settles O50: the pointer selects the byte of OAM that a read gives and a write replaces. -/
theorem oamPort : Obligations.OamPort := by
  rintro a v s ⟨-, -, -, hoam, -⟩ h h'
  refine ⟨busWrite_oamAddr v s h h', fun hk => ⟨busRead_oamData s h h' hk, ?_⟩⟩
  rw [busWrite_oamData v s h h' hk]
  exact ⟨BitVec.toNat_add _ _, fun k => Memory.read_write _ _ k v hoam, rfl⟩

end Sys2Proof.Machine
end

section
/-! PROOFS of the family 48_ppu_render.md. Painting the sprites over a colour leaves the colour of the first of them that is opaque
(`foldr_paintSprite`). The pixel values are the arithmetic of two bit planes (`tilePixel_eq`). `SamePicture` names all that the frame
reads, and each part of a pixel is shown to read nothing else. -/
namespace Sys2Proof.Machine

/-! ### Sprites over the background -/

section
variable (c : Config) (p : Ppu) (y x : Nat)

theorem paintSprite_of_transparent {n : Nat} (under : Byte) (h : spritePixel c p n y x = 0) :
    paintSprite c p y x under n = under := if_pos h

theorem paintSprite_of_opaque {n : Nat} (under : Byte) (h : spritePixel c p n y x ≠ 0) :
    paintSprite c p y x under n = spriteColour p n (spritePixel c p n y x) := if_neg h

/-- Whether sprite `n` is opaque at the pixel (48_ppu_render.md R411). -/
def spriteOpaque (n : Nat) : Bool := decide (spritePixel c p n y x ≠ 0)

/-- Sprites painted from the last of a list to its first: the first opaque one is in front (R412). -/
theorem foldr_paintSprite (under : Byte) : ∀ ns : List Nat, ns.foldr (fun n u => paintSprite c p y x u n) under =
    (ns.find? (spriteOpaque c p y x)).elim under fun n => spriteColour p n (spritePixel c p n y x)
  | [] => rfl
  | n :: ns => by
    rw [List.foldr_cons, foldr_paintSprite under ns]
    by_cases h : spritePixel c p n y x = 0
    · have hopaque : ¬ spriteOpaque c p y x n = true := by simp [spriteOpaque, h]
      rw [paintSprite_of_transparent c p y x _ h, List.find?_cons_of_neg hopaque]
    · have hopaque : spriteOpaque c p y x n = true := decide_eq_true h
      rw [paintSprite_of_opaque c p y x _ h, List.find?_cons_of_pos hopaque]
      rfl

/-- The pixel: the lowest-numbered opaque sprite's colour, or the background's. -/
theorem framePixel_eq : framePixel c p y x = ((List.range 64).find? (spriteOpaque c p y x)).elim (bgColour c p y x)
    fun n => spriteColour p n (spritePixel c p n y x) := by
  rw [framePixel, spriteOrder, List.foldl_reverse, foldr_paintSprite]

theorem framePixel_of_opaque {n : Nat} (hn : n < 64) (h : spritePixel c p n y x ≠ 0)
    (hlower : ∀ m, m < n → spritePixel c p m y x = 0) : framePixel c p y x = spriteColour p n (spritePixel c p n y x) := by
  have hfirst : (List.range 64).find? (spriteOpaque c p y x) = some n :=
    List.find?_range_eq_some.mpr ⟨decide_eq_true h, List.mem_range.mpr hn, fun m hm => by simp [spriteOpaque, hlower m hm]⟩
  rw [framePixel_eq, hfirst]
  rfl

theorem framePixel_of_transparent (h : ∀ n, n < 64 → spritePixel c p n y x = 0) : framePixel c p y x = bgColour c p y x := by
  have hnone : (List.range 64).find? (spriteOpaque c p y x) = none :=
    List.find?_range_eq_none.mpr fun n hn => by simp [spriteOpaque, h n hn]
  rw [framePixel_eq, hnone]
  rfl

/-- A colour code is a byte modulo 64 (R401). -/
theorem toNat_colourCode (b : Byte) : (colourCode b).toNat = b.toNat % 64 := Nat.and_two_pow_sub_one_eq_mod b.toNat 6

theorem framePixel_lt : (framePixel c p y x).toNat < 64 := by
  have hcode (b : Byte) : (colourCode b).toNat < 64 := by rw [toNat_colourCode]; exact Nat.mod_lt _ (by decide)
  rw [framePixel_eq]
  cases (List.range 64).find? (spriteOpaque c p y x) with
  | none => exact hcode _
  | some n => exact hcode _

end

/-! ### Pixel values -/

theorem toNat_bitOf (b : Byte) (k : Nat) : (bitOf b k).toNat = bitAt b k := by
  rw [bitOf, BitVec.getLsbD, Nat.toNat_testBit]
  rfl

/-- A pixel value from its two bit planes (R403, R406, R409). -/
theorem tilePixel_eq (c : Config) (upper : Bool) (tile : Byte) (px py : Nat) :
    tilePixel c (patternBase upper) tile px py = tileValue c upper tile px py := by
  simp only [tilePixel, tileValue, patternBase, chrRead, toNat_bitOf, Nat.mul_comm tile.toNat 16]

theorem bitAt_le (b : Byte) (k : Nat) : bitAt b k ≤ 1 := Nat.le_of_lt_succ (Nat.mod_lt _ (by decide))

theorem tileValue_lt (c : Config) (upper : Bool) (tile : Byte) (px py : Nat) : tileValue c upper tile px py < 4 := by
  have h := bitAt_le (c.chr.read ((if upper then 0x1000 else 0) + 16 * tile.toNat + py)) (7 - px)
  have h' := bitAt_le (c.chr.read ((if upper then 0x1000 else 0) + 16 * tile.toNat + py + 8)) (7 - px)
  unfold tileValue
  dsimp only
  omega

/-- The sub-palette of a tile: two bits of the byte at 0x3C0 and on that covers the tile, by its quadrant (R405). -/
theorem bgPaletteIndex_eq (p : Ppu) (row col : Nat) : bgPaletteIndex p row col =
    (p.vram.read (0x3C0 + row / 4 * 8 + col / 4)).toNat / 4 ^ (row % 4 / 2 * 2 + col % 4 / 2) % 4 := by
  rw [bgPaletteIndex, BitVec.toNat_ushiftRight, Nat.shiftRight_eq_div_pow, Nat.mul_comm _ 2, Nat.pow_mul]

/-- The palette index of a background pixel (R407). -/
theorem bgPaletteSlot_eq (q v : Nat) : bgPaletteSlot q v = if v = 0 then 0 else 4 * q + v := by
  unfold bgPaletteSlot
  split_ifs <;> omega

/-- The background's colour by the tile and the pixel in it. -/
theorem bgColour_eq (c : Config) (p : Ppu) (y x : Nat) : bgColour c p y x =
    colourCode (p.palette.read (bgPaletteSlot (bgPaletteIndex p (y / 8) (x / 8))
      (tileValue c p.bgPattern (p.vram.read (32 * (y / 8) + x / 8)) (x % 8) (y % 8)))) := by
  rw [← tilePixel_eq]
  rfl

/-- The pixel a flip mirrors to. -/
def flipped (flip : Bool) (d : Nat) : Nat := if flip then 7 - d else d

theorem flipped_lt (flip : Bool) {d : Nat} (h : d < 8) : flipped flip d < 8 := by
  unfold flipped
  split_ifs <;> omega

theorem flipped_flipped (flip : Bool) {d : Nat} (h : d < 8) : flipped flip (flipped flip d) = d := by
  unfold flipped
  split_ifs <;> omega

/-- A sprite's value inside its square, at the offset (dy, dx) from its corner (R411). -/
theorem spritePixel_inside (c : Config) (p : Ppu) (n : Nat) {dy dx : Nat} (hy : dy < 8) (hx : dx < 8) :
    spritePixel c p n (sprY p n + dy) (sprX p n + dx) = tileValue c p.sprPattern (sprTile p n)
      (flipped (bitOf (sprAttr p n) 6) dx) (flipped (bitOf (sprAttr p n) 7) dy) := by
  have hin : sprX p n ≤ sprX p n + dx ∧ sprX p n + dx < sprX p n + 8 ∧ sprY p n ≤ sprY p n + dy ∧
      sprY p n + dy < sprY p n + 8 := by omega
  unfold spritePixel
  rw [if_pos hin, tilePixel_eq, Nat.add_sub_cancel_left, Nat.add_sub_cancel_left]
  rfl

theorem spritePixel_outside (c : Config) (p : Ppu) (n : Nat) {y x : Nat}
    (h : y < sprY p n ∨ sprY p n + 8 ≤ y ∨ x < sprX p n ∨ sprX p n + 8 ≤ x) : spritePixel c p n y x = 0 :=
  if_neg (by omega)

/-- A pixel lies outside a sprite's square, or at an offset from its corner. -/
theorem square_cases (p : Ppu) (n y x : Nat) : (y < sprY p n ∨ sprY p n + 8 ≤ y ∨ x < sprX p n ∨ sprX p n + 8 ≤ x) ∨
    ∃ dy dx, dy < 8 ∧ dx < 8 ∧ y = sprY p n + dy ∧ x = sprX p n + dx := by
  refine or_iff_not_imp_left.mpr fun hin => ⟨y - sprY p n, x - sprX p n, ?_⟩
  omega

theorem spritePixel_lt (c : Config) (p : Ppu) (n y x : Nat) : spritePixel c p n y x < 4 := by
  obtain hout | ⟨dy, dx, hdy, hdx, rfl, rfl⟩ := square_cases p n y x
  · rw [spritePixel_outside c p n hout]; decide
  · rw [spritePixel_inside c p n hdy hdx]; exact tileValue_lt _ _ _ _ _

theorem spriteColour_eq (p : Ppu) (n : Nat) {v : Nat} (h : 1 ≤ v) :
    spriteColour p n v = colourCode (p.palette.read (0x10 + 4 * ((sprAttr p n).toNat % 4) + v)) := by
  have hslot : 0x11 + 4 * ((sprAttr p n).toNat % 4) + (v - 1) = 0x10 + 4 * ((sprAttr p n).toNat % 4) + v := by omega
  rw [spriteColour, hslot]

/-- Settles O55: the sprites in front by their order, each pixel value from its bit planes, and the frame pixel by pixel. -/
theorem lowestSpriteWins : Obligations.LowestSpriteWins := by
  refine ⟨fun c p y x => ⟨fun n => framePixel_of_opaque c p y x, framePixel_of_transparent c p y x, framePixel_lt c p y x⟩,
    fun c p row col px py hrow hcol hpx hpy => ?background, fun c p n hn => ⟨fun px py hpx hpy => ?inside, fun y x => ?outside,
      fun v hv hv' => ?colour⟩, fun s => ⟨?rows, fun y hy => ⟨?columns, fun x hx => ?pixel⟩⟩⟩
  case background =>
    have hrow : (8 * row + py) / 8 = row ∧ (8 * row + py) % 8 = py := by omega
    have hcol : (8 * col + px) / 8 = col ∧ (8 * col + px) % 8 = px := by omega
    rw [bgColour_eq, hrow.1, hrow.2, hcol.1, hcol.2, toNat_colourCode, bgPaletteSlot_eq, bgPaletteIndex_eq]
    rfl
  case inside =>
    have h := spritePixel_inside c p n (flipped_lt (bitOf (sprAttr p n) 7) hpy) (flipped_lt (bitOf (sprAttr p n) 6) hpx)
    rw [flipped_flipped _ hpx, flipped_flipped _ hpy] at h
    exact h
  case outside => exact spritePixel_outside c p n
  case colour =>
    rw [spriteColour_eq p n hv, toNat_colourCode]
    rfl
  case rows => simp [frame]
  case columns => simp [frame, hy]
  case pixel => simp [frame, hy, hx]

/-! ### What the frame depends on (R413) -/

/-- Two machines agree on all that the frame reads. -/
structure SamePicture (c d : Config) (p q : Ppu) : Prop where
  chr : ∀ k, k < 0x2000 → c.chr.read k = d.chr.read k
  vram : ∀ k, k < 0x400 → p.vram.read k = q.vram.read k
  palette : ∀ k, k < 32 → p.palette.read k = q.palette.read k
  oam : ∀ k, k < 256 → p.oam.read k = q.oam.read k
  sprPattern : p.sprPattern = q.sprPattern
  bgPattern : p.bgPattern = q.bgPattern

section
variable {c d : Config} {p q : Ppu} (h : SamePicture c d p q)
include h

/-- A tile's bit planes lie in CHR's 0x2000 bytes. -/
theorem SamePicture.tileValue (upper : Bool) (tile : Byte) (px : Nat) {py : Nat} (hpy : py < 8) :
    tileValue c upper tile px py = tileValue d upper tile px py := by
  have htile := tile.isLt
  have hbase : (if upper then 0x1000 else 0) ≤ 0x1000 := by split_ifs <;> omega
  unfold Machine.tileValue
  dsimp only
  rw [h.chr _ (by omega), h.chr _ (by omega)]

theorem SamePicture.bgColour {y x : Nat} (hy : y < 240) (hx : x < 256) : bgColour c p y x = bgColour d q y x := by
  have hindex : bgPaletteIndex p (y / 8) (x / 8) = bgPaletteIndex q (y / 8) (x / 8) := by
    rw [bgPaletteIndex_eq, bgPaletteIndex_eq, h.vram _ (by omega)]
  have hslot : bgPaletteSlot (bgPaletteIndex q (y / 8) (x / 8)) (Machine.tileValue d q.bgPattern
      (q.vram.read (32 * (y / 8) + x / 8)) (x % 8) (y % 8)) < 32 := by
    have hv := tileValue_lt d q.bgPattern (q.vram.read (32 * (y / 8) + x / 8)) (x % 8) (y % 8)
    have hq : bgPaletteIndex q (y / 8) (x / 8) < 4 := Nat.mod_lt _ (by decide)
    rw [bgPaletteSlot_eq]
    split_ifs <;> omega
  rw [bgColour_eq, bgColour_eq, hindex, h.bgPattern, h.vram (32 * (y / 8) + x / 8) (by omega),
    h.tileValue _ _ _ (Nat.mod_lt y (by decide)), h.palette _ hslot]

theorem SamePicture.spritePixel {n : Nat} (hn : n < 64) (y x : Nat) : spritePixel c p n y x = spritePixel d q n y x := by
  have hY : sprY p n = sprY q n := by rw [sprY, sprY, h.oam _ (by omega)]
  have hX : sprX p n = sprX q n := by rw [sprX, sprX, h.oam _ (by omega)]
  have hA : sprAttr p n = sprAttr q n := h.oam _ (by omega)
  have hT : sprTile p n = sprTile q n := h.oam _ (by omega)
  obtain hout | ⟨dy, dx, hdy, hdx, rfl, rfl⟩ := square_cases q n y x
  · rw [spritePixel_outside c p n (by rw [hY, hX]; exact hout), spritePixel_outside d q n hout]
  · rw [spritePixel_inside d q n hdy hdx, ← hY, ← hX, spritePixel_inside c p n hdy hdx, hA, hT, h.sprPattern,
      h.tileValue _ _ _ (flipped_lt _ hdy)]

theorem SamePicture.spriteColour {n v : Nat} (hn : n < 64) (hv : 1 ≤ v) (hv' : v < 4) : spriteColour p n v = spriteColour q n v := by
  have hA : sprAttr p n = sprAttr q n := h.oam _ (by omega)
  rw [spriteColour_eq p n hv, spriteColour_eq q n hv, hA, h.palette _ (by omega)]

theorem SamePicture.framePixel {y x : Nat} (hy : y < 240) (hx : x < 256) : framePixel c p y x = framePixel d q y x := by
  have hpaint (under : Byte) (n : Nat) (hn : n ∈ spriteOrder) : paintSprite c p y x under n = paintSprite d q y x under n := by
    have hn : n < 64 := by simpa [spriteOrder] using hn
    have hpixel := h.spritePixel hn y x
    by_cases h0 : Machine.spritePixel d q n y x = 0
    · rw [paintSprite_of_transparent d q y x _ h0, paintSprite_of_transparent c p y x _ (hpixel.trans h0)]
    · have hlt := spritePixel_lt d q n y x
      rw [paintSprite_of_opaque d q y x _ h0, paintSprite_of_opaque c p y x _ (hpixel.symm ▸ h0), hpixel,
        h.spriteColour hn (by omega) hlt]
  unfold Machine.framePixel
  rw [h.bgColour hy hx]
  exact List.foldl_ext _ _ _ hpaint

end

/-- Settles O56: the frame reads what `SamePicture` names and nothing else. -/
theorem frameDependsOnlyOn : Obligations.FrameDependsOnlyOn := by
  intro s t hchr hvram hpalette hoam hspr hbg
  have h : SamePicture s.cfg t.cfg s.ppu t.ppu := ⟨hchr, hvram, hpalette, hoam, hspr, hbg⟩
  exact List.map_congr_left fun y hy => List.map_congr_left fun x hx =>
    h.framePixel (List.mem_range.mp hy) (List.mem_range.mp hx)

end Sys2Proof.Machine
end

section
/-! PROOFS of the family 49_devices.md. Reads of a joypad port move its index alone, so that `k` of them are `k` reads of the joypad
(`reads_joy0`, `reads_joy1`). An OAM DMA writes its bytes one after another from the pointer on (`OamFilled`), and 256 of them bring the
pointer back. The loader has one equation for each of its answers. -/

namespace Sys2Proof.Machine

/-! ### Joypads (section 1) -/

theorem busRead_joy0 (s : State) : busRead 0x4016 s = (s.joy0.read.1, { s with joy0 := s.joy0.read.2 }) := rfl

theorem busRead_joy1 (s : State) : busRead 0x4017 s = (s.joy1.read.1, { s with joy1 := s.joy1.read.2 }) := rfl

theorem busWrite_strobe (v : Byte) (s : State) :
    busWrite 0x4016 v s = { s with joy0 := s.joy0.strobeWrite v, joy1 := s.joy1.strobeWrite v } := rfl

/-- A strobe write of a high bit holds the index at 0 (R421). -/
theorem strobeWrite_of_high {v : Byte} (j : Joypad) (h : v.getLsbD 0 = true) :
    j.strobeWrite v = { j with strobe := true, index := 0 } := by
  unfold Joypad.strobeWrite bitOf
  rw [h]
  rfl

theorem strobeWrite_of_low {v : Byte} (j : Joypad) (h : v.getLsbD 0 = false) :
    j.strobeWrite v = { j with strobe := false } := by
  unfold Joypad.strobeWrite bitOf
  rw [h]
  rfl

theorem toNat_shift_and_one (b : Byte) (k : Nat) : ((b >>> k) &&& 1#8).toNat = (b.getLsbD k).toNat := by
  rw [BitVec.toNat_and, BitVec.toNat_ushiftRight, BitVec.getLsbD, Nat.toNat_testBit, Nat.shiftRight_eq_div_pow]
  exact Nat.and_two_pow_sub_one_eq_mod _ 1

/-- The byte that a read gives (R422). -/
theorem Joypad.read_byte (j : Joypad) : j.read.1.toNat = if j.index < 8 then (j.buttons.getLsbD j.index).toNat else 1 := by
  unfold Joypad.read
  by_cases h : j.index < 8
  · rw [if_neg (by omega), if_pos h]; exact toNat_shift_and_one _ _
  · rw [if_pos (by omega), if_neg h]; rfl

/-- The joypad after a read (R422). -/
theorem Joypad.read_joypad (j : Joypad) : j.read.2 =
    { j with index := if j.index < 8 ∧ j.strobe = false then j.index + 1 else j.index } := by
  obtain ⟨b, strobe, index⟩ := j
  by_cases h : index < 8
  · have hmore : ¬ 7 < index := by omega
    cases strobe <;> simp [Joypad.read, h, hmore]
  · have hdone : 7 < index := by omega
    simp [Joypad.read, h, hdone]

/-- The joypad after `k` reads. -/
def Joypad.reads (k : Nat) (j : Joypad) : Joypad := (fun j : Joypad => j.read.2)^[k] j

/-- With the strobe low the index counts the reads, up to 8 (R422, R423). -/
theorem Joypad.reads_low (b : Byte) : ∀ k, Joypad.reads k ⟨b, false, 0⟩ = ⟨b, false, min k 8⟩
  | 0 => rfl
  | k + 1 => by
    have hstep : Joypad.reads (k + 1) ⟨b, false, 0⟩ = (Joypad.reads k ⟨b, false, 0⟩).read.2 :=
      Function.iterate_succ_apply' _ _ _
    have hindex : (if min k 8 < 8 then min k 8 + 1 else min k 8) = min (k + 1) 8 := by split_ifs <;> omega
    rw [hstep, Joypad.reads_low b k, Joypad.read_joypad]
    simp only [and_true, hindex]

/-- With the strobe high a read changes nothing (R422). -/
theorem Joypad.reads_high (b : Byte) (k : Nat) : Joypad.reads k ⟨b, true, 0⟩ = ⟨b, true, 0⟩ :=
  Function.iterate_fixed (by rw [Joypad.read_joypad]; rfl) k

/-- Reads of a port are reads of its joypad alone. -/
theorem reads_joy0 (k : Nat) (s : State) :
    (fun u => (busRead 0x4016 u).2)^[k] s = { s with joy0 := s.joy0.reads k } := by
  induction k with
  | zero => rfl
  | succ k ih => rw [Function.iterate_succ_apply', ih, busRead_joy0, Joypad.reads, Joypad.reads, Function.iterate_succ_apply']

theorem reads_joy1 (k : Nat) (s : State) :
    (fun u => (busRead 0x4017 u).2)^[k] s = { s with joy1 := s.joy1.reads k } := by
  induction k with
  | zero => rfl
  | succ k ih => rw [Function.iterate_succ_apply', ih, busRead_joy1, Joypad.reads, Joypad.reads, Function.iterate_succ_apply']

/-- The byte that the next read gives after `k` of them, with the strobe low: the buttons in order, then 1. -/
theorem Joypad.read_after_low (b : Byte) (k : Nat) :
    (Joypad.reads k ⟨b, false, 0⟩).read.1.toNat = if k < 8 then (b.getLsbD k).toNat else 1 := by
  rw [Joypad.reads_low, Joypad.read_byte]
  dsimp only
  by_cases h : k < 8
  · rw [Nat.min_eq_left h.le]
  · rw [Nat.min_eq_right (Nat.not_lt.mp h), if_neg h, if_neg (by decide)]

theorem Joypad.read_after_high (b : Byte) (k : Nat) :
    (Joypad.reads k ⟨b, true, 0⟩).read.1.toNat = (b.getLsbD 0).toNat := by
  rw [Joypad.reads_high, Joypad.read_byte]
  rfl

/-- Settles O52: the strobe writes set both joypads, and the reads after them count on one alone. -/
theorem joypadProtocol : Obligations.JoypadProtocol := by
  intro s v w k hv hw high low
  have hhigh : high = { s with joy0 := ⟨s.joy0.buttons, true, 0⟩, joy1 := ⟨s.joy1.buttons, true, 0⟩ } := by
    rw [← strobeWrite_of_high s.joy0 hv, ← strobeWrite_of_high s.joy1 hv]
    rfl
  have hlow : low = { s with joy0 := ⟨s.joy0.buttons, false, 0⟩, joy1 := ⟨s.joy1.buttons, false, 0⟩ } := by
    change busWrite 0x4016 w high = _
    rw [hhigh, busWrite_strobe, strobeWrite_of_low _ hw, strobeWrite_of_low _ hw]
  rw [hlow, reads_joy0, reads_joy1, hhigh, reads_joy0, reads_joy1, busWrite_strobe, strobeWrite_of_low _ hw, strobeWrite_of_low _ hw]
  exact ⟨⟨Joypad.read_after_low _ k, Joypad.read_after_low _ k⟩, ⟨Joypad.read_after_high _ k, Joypad.read_after_high _ k⟩,
    ⟨rfl, rfl⟩, ⟨rfl, rfl⟩, ⟨s.joy0.read_byte, by rw [busRead_joy0, Joypad.read_joypad]⟩,
    s.joy1.read_byte, by rw [busRead_joy1, Joypad.read_joypad]⟩

/-! ### OAM DMA (section 2) -/

/-- `q` is `p` after OAM writes of `bytes` from the pointer on, wrapping (47_ppu_registers.md R382). -/
structure OamFilled (bytes : List Byte) (p q : Ppu) : Prop where
  wf : q.oam.wf = true
  pointer : q.oamAddr.toNat = (p.oamAddr.toNat + bytes.length) % 256
  written : ∀ i, i < bytes.length → q.oam.read ((p.oamAddr.toNat + i) % 256) = bytes.getD i 0
  frame : q = { p with oam := q.oam, oamAddr := q.oamAddr }

/-- The next write lands past the bytes before it, of which there are fewer than 256. -/
theorem OamFilled.write {bytes : List Byte} {p q : Ppu} (h : OamFilled bytes p q) (hlen : bytes.length < 256) (b : Byte) :
    OamFilled (bytes ++ [b]) p (q.writeOamData b) := by
  have hread (k : Nat) : (q.writeOamData b).oam.read k = if k = q.oamAddr.toNat then b else q.oam.read k :=
    Memory.read_write _ _ k b h.wf
  refine ⟨Memory.wf_write _ _ _ h.wf, ?pointer, fun i hi => ?written, ?frame⟩
  case pointer =>
    have hq : (q.writeOamData b).oamAddr.toNat = (q.oamAddr.toNat + 1) % 256 := BitVec.toNat_add _ _
    rw [hq, h.pointer, List.length_append]
    exact Nat.mod_add_mod _ 256 1
  case written =>
    rw [List.length_append, List.length_singleton] at hi
    rw [hread, h.pointer]
    by_cases hlast : i = bytes.length
    · subst hlast
      rw [if_pos rfl, List.getD_append_right _ _ _ _ le_rfl, Nat.sub_self]
      rfl
    · have hi : i < bytes.length := by omega
      rw [if_neg (by omega), h.written i hi, List.getD_append _ _ _ _ hi]
  case frame =>
    rw [h.frame]
    rfl

/-- Up to 256 OAM writes in a row. -/
theorem oamFilled_foldl {p : Ppu} (hwf : p.oam.wf = true) (bytes : List Byte) (hlen : bytes.length ≤ 256) :
    OamFilled bytes p (bytes.foldl (fun p b => p.writeOamData b) p) := by
  induction bytes using List.reverseRecOn with
  | nil => exact ⟨hwf, (Nat.mod_eq_of_lt p.oamAddr.isLt).symm, nofun, rfl⟩
  | append_singleton bytes b ih =>
    rw [List.length_append, List.length_singleton] at hlen
    rw [List.foldl_append]
    exact (ih (by omega)).write (by omega) b

/-- The write that starts an OAM DMA (R430). -/
theorem busWrite_dma (page : Byte) (s : State) : busWrite 0x4014 page s = dmaWrites (busReadRun 256 (wordOf 0x00 page) s) := rfl

theorem wordOf_zero (page : Byte) : wordOf 0x00 page = BitVec.ofNat 16 (page.toNat * 256) := by
  refine BitVec.eq_of_toNat_eq ?_
  have := page.isLt
  rw [toNat_wordOf, BitVec.toNat_ofNat]
  change 0 + 256 * page.toNat = _
  omega

/-- A run of reads below 0x2000 gives the bytes of RAM and changes nothing (20_memory.md R76). -/
theorem busReadRun_ram_bytes (s : State) : ∀ (n : Nat) (a : Addr), a.toNat + n ≤ 0x2000 →
    busReadRun n a s = ((List.range n).map fun i => s.ram.read ((a.toNat + i) % 0x800), s)
  | 0, _, _ => rfl
  | n + 1, a, h => by
    have hnext : (a + 1).toNat = a.toNat + 1 := by bv_omega
    have ih := busReadRun_ram_bytes s n (a + 1) (by omega)
    rw [busReadRun, busRead_of_lt a s (by omega), ih, List.range_succ_eq_map, List.map_cons, List.map_map, ramIndex_eq, hnext]
    simp only [Function.comp_def, Nat.succ_eq_add_one, Nat.add_assoc, Nat.add_comm 1, Nat.add_zero]

/-- The 256 writes of a DMA fill OAM from the pointer on, and bring the pointer back (R430). -/
theorem dmaWrites_copies {r : List Byte × State} (hlen : r.1.length = 256) (hwf : r.2.ppu.oam.wf = true) :
    (∀ i, i < 256 → (dmaWrites r).ppu.oam.read ((r.2.ppu.oamAddr.toNat + i) % 256) = r.1.getD i 0) ∧
    (dmaWrites r).ppu.oamAddr = r.2.ppu.oamAddr ∧
    dmaWrites r = { r.2 with ppu := { r.2.ppu with oam := (dmaWrites r).ppu.oam } } := by
  have hfill : OamFilled r.1 r.2.ppu (dmaWrites r).ppu := oamFilled_foldl hwf r.1 hlen.le
  have hpointer : (dmaWrites r).ppu.oamAddr = r.2.ppu.oamAddr := by
    refine BitVec.eq_of_toNat_eq ?_
    rw [hfill.pointer, hlen, Nat.add_mod_right]
    exact Nat.mod_eq_of_lt (BitVec.isLt _)
  have hppu := hfill.frame
  rw [hpointer] at hppu
  exact ⟨fun i hi => hfill.written i (by rw [hlen]; exact hi), hpointer, congrArg (fun q => { r.2 with ppu := q }) hppu⟩

/-- A page of RAM, byte by byte: it does not cross a multiple of 0x800. -/
theorem busReadRun_ram_page {page : Byte} (h : page.toNat < 0x20) (s : State) :
    let r := busReadRun 256 (BitVec.ofNat 16 (page.toNat * 256)) s
    r.2 = s ∧ ∀ i, i < 256 → r.1.getD i 0 = s.ram.read (page.toNat * 256 % 0x800 + i) := by
  have haddr : (BitVec.ofNat 16 (page.toNat * 256)).toNat = page.toNat * 256 := by rw [BitVec.toNat_ofNat]; omega
  rw [busReadRun_ram_bytes s 256 _ (by rw [haddr]; omega), haddr]
  refine ⟨rfl, fun i hi => ?_⟩
  have hindex : (page.toNat * 256 + i) % 0x800 = page.toNat * 256 % 0x800 + i := by omega
  simp [hi, hindex]

/-- Settles O51: the reads leave OAM and its pointer alone, and the 256 writes start from them. -/
theorem oamDmaCopies : Obligations.OamDmaCopies := by
  rintro page s ⟨-, -, -, hoam, -⟩ r t
  have hsame : PpuReadSame s.ppu r.2.ppu := busReadRun_ppuSame 256 _ s
  have ht : busWrite 0x4014 page s = dmaWrites r := by rw [busWrite_dma, wordOf_zero]
  obtain ⟨hcopied, hpointer, hframe⟩ := dmaWrites_copies (r := r) (busReadRun_length 256 _ s) (by rw [hsame.oam]; exact hoam)
  rw [← ht] at hcopied hpointer hframe
  rw [hsame.oamAddr] at hcopied hpointer
  exact ⟨hcopied, hpointer, hframe, fun hpage => busReadRun_ram_page hpage s⟩

end Sys2Proof.Machine

namespace Sys2Proof

/-! ### The loader (section 4) -/

/-- The two NES 2.0 bits of a header byte, as arithmetic (R435). -/
theorem nes2Mark_ne_zero_iff (b : Byte) : (b >>> 2) &&& 3#8 ≠ 0#8 ↔ b.toNat / 4 % 4 ≠ 0 := by
  have hnum : ((b >>> 2) &&& 3#8).toNat = b.toNat / 4 % 4 := by
    rw [BitVec.toNat_and, BitVec.toNat_ushiftRight, Nat.shiftRight_eq_div_pow]
    exact Nat.and_two_pow_sub_one_eq_mod _ 2
  rw [← hnum]
  exact (BitVec.toNat_inj (y := 0#8)).not.symm

/-- A byte put together from the high nibble of one byte and the high nibble of another. -/
theorem toNat_two_nibbles (hi lo : Byte) : ((hi &&& 0xF0#8) ||| (lo >>> 4)).toNat = lo.toNat / 16 + 16 * (hi.toNat / 16) := by
  have hmask : hi &&& 0xF0#8 = (hi >>> 4) <<< 4 := by
    rw [BitVec.shiftLeft_ushiftRight]
    rfl
  have hhi : hi.toNat / 2 ^ 4 * 2 ^ 4 % 2 ^ 8 = 2 ^ 4 * (hi.toNat / 16) := by
    have := hi.isLt
    omega
  have hlo : lo.toNat / 2 ^ 4 < 2 ^ 4 := by
    have := lo.isLt
    omega
  rw [hmask, BitVec.toNat_or, BitVec.toNat_shiftLeft, BitVec.toNat_ushiftRight, BitVec.toNat_ushiftRight,
    Nat.shiftRight_eq_div_pow, Nat.shiftRight_eq_div_pow, Nat.shiftLeft_eq, hhi, ← Nat.two_pow_add_eq_or_of_lt hlo]
  omega

/-- How many bytes the header announces (R435). -/
def headerSize (img : List Byte) : Nat := headerPrgOffset img + headerPrgBytes img + headerChrBytes img

/-- The header has the magic and no NES 2.0 mark (R435). -/
structure HeaderOk (img : List Byte) : Prop where
  magic : img.take 4 = [0x4E, 0x45, 0x53, 0x1A]
  nes2 : (headerByte img 7).toNat / 4 % 4 = 0

theorem parseINes_of_magic {img : List Byte} (h : img.take 4 ≠ [0x4E, 0x45, 0x53, 0x1A]) :
    parseINes img = .error .magic := if_pos h

theorem parseINes_of_nes2 {img : List Byte} (h : img.take 4 = [0x4E, 0x45, 0x53, 0x1A])
    (h' : (headerByte img 7).toNat / 4 % 4 ≠ 0) : parseINes img = .error .nes2 :=
  (if_neg (not_not.mpr h)).trans (if_pos ((nes2Mark_ne_zero_iff _).mpr h'))

theorem headerOk_of_bits {img : List Byte} (hmagic : img.take 4 = [0x4E, 0x45, 0x53, 0x1A])
    (h2 : (headerByte img 7).getLsbD 2 = false) (h3 : (headerByte img 7).getLsbD 3 = false) : HeaderOk img := by
  refine ⟨hmagic, ?_⟩
  have h2 := (Machine.bitOf_eq_decide (headerByte img 7) 2).symm.trans h2
  have h3 := (Machine.bitOf_eq_decide (headerByte img 7) 3).symm.trans h3
  rw [decide_eq_false_iff_not] at h2 h3
  omega

/-- PRG comes after the header's 16 bytes and the trainer (R435). -/
theorem headerPrgOffset_eq (img : List Byte) :
    headerPrgOffset img = 16 + if (headerByte img 6).getLsbD 2 then 512 else 0 := by
  unfold headerPrgOffset bitOf
  split_ifs <;> rfl

/-- With a good header only the length is left to check. -/
theorem HeaderOk.parseINes_eq {img : List Byte} (h : HeaderOk img) : parseINes img =
    if img.length < headerSize img then .error .length else .ok
      { prg := (img.drop (headerPrgOffset img)).take (headerPrgBytes img)
        chr := (img.drop (headerPrgOffset img + headerPrgBytes img)).take (headerChrBytes img)
        mapper := headerMapper img
        mirroring := headerMirroring img } :=
  (if_neg (not_not.mpr h.magic)).trans (if_neg ((nes2Mark_ne_zero_iff _).not.mpr (not_not.mpr h.nes2)))

/-- An image that holds PRG and CHR where its header says, whatever comes after them. -/
theorem HeaderOk.parseINes_parts {img lead prg chr extra : List Byte} (h : HeaderOk img)
    (himg : img = lead ++ (prg ++ (chr ++ extra))) (hlead : headerPrgOffset img = lead.length)
    (hprg : headerPrgBytes img = prg.length) (hchr : headerChrBytes img = chr.length) :
    parseINes img = .ok { prg := prg, chr := chr, mapper := headerMapper img, mirroring := headerMirroring img } := by
  have hlong : ¬ img.length < headerSize img := by
    rw [headerSize, hlead, hprg, hchr, himg]
    simp only [List.length_append]
    omega
  have hprgSlice : (img.drop lead.length).take prg.length = prg := by rw [himg, List.drop_left, List.take_left]
  have hchrSlice : (img.drop (lead.length + prg.length)).take chr.length = chr := by
    rw [himg, ← List.drop_drop, List.drop_left, List.drop_left, List.take_left]
  rw [h.parseINes_eq, if_neg hlong, hlead, hprg, hchr, hprgSlice, hchrSlice]

theorem admittedPrgSize_of_some {n : Nat} {size : PrgSize} (h : admittedPrgSize n = some size) : n = 0x4000 ∨ n = 0x8000 := by
  unfold admittedPrgSize at h
  split_ifs at h with h1 h2
  · exact .inl h1
  · exact .inr h2

/-- What the spec asks of an image (R436). -/
structure Image.Admitted (im : Image) : Prop where
  mapper : im.mapper = 0
  prg : im.prg.length = 0x4000 ∨ im.prg.length = 0x8000
  chr : im.chr.length = 0x2000
  mirroring : im.mirroring ≠ .fourScreen

/-- The cartridge of an image that meets R436. -/
def imageConfig (im : Image) (strict : Bool) : Config :=
  { prg := Memory.ofBytes im.prg, prgSize := if im.prg.length = 0x4000 then .k16 else .k32, chr := Memory.ofBytes im.chr,
    mapper := im.mapper, mirroring := if im.mirroring = .vertical then .vertical else .horizontal, strict := strict }

theorem Image.Admitted.admitImage_eq {im : Image} (h : im.Admitted) (strict : Bool) :
    admitImage im strict = some (imageConfig im strict) := by
  have hsize : admittedPrgSize im.prg.length = some (if im.prg.length = 0x4000 then .k16 else .k32) := by
    rcases h.prg with e | e <;> rw [e] <;> rfl
  have hmir : admittedMirroring im.mirroring = some (if im.mirroring = .vertical then .vertical else .horizontal) := by
    cases hm : im.mirroring with
    | vertical | horizontal => rfl
    | fourScreen => exact absurd hm h.mirroring
  unfold admitImage
  rw [hsize, hmir]
  exact if_pos ⟨h.mapper, h.chr⟩

theorem admitImage_eq_none {im : Image} (h : ¬ im.Admitted) (strict : Bool) : admitImage im strict = none := by
  unfold admitImage
  split
  · rename_i size mir hsize hmir
    refine if_neg fun ⟨hmapper, hchr⟩ => h ⟨hmapper, admittedPrgSize_of_some hsize, hchr, fun hfour => ?_⟩
    rw [hfour] at hmir
    cases hmir
  · rfl

end Sys2Proof

namespace Sys2Proof.Machine

section
variable {img : List Byte} {im : Image} (strict : Bool) (ram vram palette oam : Memory) (input : List (Byte × Byte))

theorem boot_of_error {e : FormatReason} (h : parseINes img = .error e) :
    boot img strict ram vram palette oam input = .fault (.formatError e) := by
  unfold boot
  rw [h]

theorem boot_of_admitted {cfg : Config} (h : parseINes img = .ok im) (hcfg : admitImage im strict = some cfg) :
    boot img strict ram vram palette oam input = .next (powerOn cfg ram vram palette oam input) := by
  unfold boot
  rw [h]
  dsimp only
  rw [hcfg]

theorem boot_of_refused (h : parseINes img = .ok im) (hnone : admitImage im strict = none) :
    boot img strict ram vram palette oam input = .refused .cartridgeNotAdmitted := by
  unfold boot
  rw [h]
  dsimp only
  rw [hnone]

end

/-- Settles O57: the slices of an image by its header, the checks in their order, and what `boot` makes of each outcome. -/
theorem iNesImageParses : Obligations.INesImageParses := by
  refine ⟨?parts, ?checks, ?boots⟩
  case parts =>
    intro h4 h5 h6 h7 ignored trainer prg chr extra hb2 hb3 hignored htrainer hprg hchr
    generalize himg : [0x4E, 0x45, 0x53, 0x1A, h4, h5, h6, h7] ++ ignored ++ trainer ++ prg ++ chr ++ extra = img
    obtain ⟨hmagic, e4, e5, e6, e7⟩ : img.take 4 = [0x4E, 0x45, 0x53, 0x1A] ∧ headerByte img 4 = h4 ∧ headerByte img 5 = h5 ∧
        headerByte img 6 = h6 ∧ headerByte img 7 = h7 := by
      subst himg
      exact ⟨rfl, rfl, rfl, rfl, rfl⟩
    have hok : HeaderOk img := headerOk_of_bits hmagic (by rw [e7]; exact hb2) (by rw [e7]; exact hb3)
    have hlead : headerPrgOffset img = ([0x4E, 0x45, 0x53, 0x1A, h4, h5, h6, h7] ++ ignored ++ trainer).length := by
      rw [headerPrgOffset_eq, e6, List.length_append, List.length_append, hignored, htrainer]
      rfl
    have hsplit : img = [0x4E, 0x45, 0x53, 0x1A, h4, h5, h6, h7] ++ ignored ++ trainer ++ (prg ++ (chr ++ extra)) := by
      rw [← himg]
      simp only [List.append_assoc]
    refine ⟨_, hok.parseINes_parts hsplit hlead (by rw [headerPrgBytes, e4, hprg]) (by rw [headerChrBytes, e5, hchr]), rfl, rfl,
      ?mapper, ?mirroring⟩
    case mapper =>
      dsimp only
      rw [headerMapper, toNat_two_nibbles, e6, e7]
    case mirroring =>
      dsimp only
      rw [headerMirroring, e6]
      rfl
  case checks =>
    intro img h magic nes2 size
    have hok (hm : magic = true) (hn : nes2 = false) : HeaderOk img :=
      ⟨of_decide_eq_true hm, not_not.mp (of_decide_eq_false hn)⟩
    exact ⟨fun hm => parseINes_of_magic (of_decide_eq_false hm),
      fun hm hn => parseINes_of_nes2 (of_decide_eq_true hm) (of_decide_eq_true hn),
      fun hm hn hlt => (hok hm hn).parseINes_eq.trans (if_pos hlt),
      fun hm hn hle => ⟨_, (hok hm hn).parseINes_eq.trans (if_neg (Nat.not_lt.mpr hle))⟩⟩
  case boots =>
    intro img strict ram vram palette oam input booted
    refine ⟨fun e he => boot_of_error strict ram vram palette oam input he, fun im him =>
      ⟨fun ⟨hmapper, hprg, hchr, hmir⟩ => ?meets, fun hnot => ?fails⟩⟩
    case meets =>
      have hcfg := Image.Admitted.admitImage_eq ⟨hmapper, hprg, hchr, hmir⟩ strict
      exact ⟨_, hcfg, boot_of_admitted strict ram vram palette oam input him hcfg, Memory.read_ofBytes im.prg,
        Memory.read_ofBytes im.chr, rfl, hmapper, rfl, rfl⟩
    case fails =>
      have hnone := admitImage_eq_none (im := im) (fun h => hnot ⟨h.mapper, h.prg, h.chr, h.mirroring⟩) strict
      exact ⟨hnone, boot_of_refused strict ram vram palette oam input him hnone⟩

end Sys2Proof.Machine
end

section
/-! PROOFS of the family 60_exceptions.md. The NMI entry in closed form (`nmiEntry_eq`) gives its effect, and RTI undoes it. What a
strict machine stops on is the stop of the last Bus access that an instruction makes: `EndsAs` names that access's state for every
form with a memory operand, and Laws/Strict.lean says what stop it holds. -/
namespace Sys2Proof.Machine

/-! ### The NMI entry (section 2) -/

theorem serviceNmi_of_pending {s : State} (h : s.ppu.nmiPending = true) : serviceNmi s = nmiEntry (pollNmi s) := if_pos h

/-- Settles O6: the poll finds the NMI pending, and what it leaves is the state that the entry starts from. -/
theorem pendingNmiIsTakenBeforeTheFetch : Obligations.PendingNmiIsTakenBeforeTheFetch := by
  intro s c rest hrun hnmi n hdec
  have hentry : serviceNmi s = n := serviceNmi_of_pending hnmi
  have hfetch : decodeOpcode (fetchOpcode (serviceNmi s)).1 = some c.op := by rw [hentry]; exact decode_peekBytes hdec
  have hstep := step_of_decodeOpcode hrun hfetch
  rw [hentry] at hstep
  exact hstep

/-- RAM after the entry: its three stack slots, and every other byte as it was (R460). -/
theorem nmiEntry_ram_read {s : State} (hwf : s.ram.wf = true) (k : Nat) : (nmiEntry s).ram.read k =
    if k = 0x100 + (s.sp - 2).toNat then nmiImage s.p else if k = 0x100 + (s.sp - 1).toNat then loByte s.pc
    else if k = 0x100 + s.sp.toNat then hiByte s.pc else s.ram.read k := by
  rw [nmiEntry_eq, State.setPc_ram, (busTick_ticked 2 _).ram, nmiPushed,
    Memory.read_write _ _ _ _ (Memory.wf_write _ _ _ (Memory.wf_write _ _ _ hwf)),
    Memory.read_write _ _ _ _ (Memory.wf_write _ _ _ hwf), Memory.read_write _ _ _ _ hwf]

/-- The three slots are different: SP wraps modulo 256 only. -/
theorem stackSlots_ne (sp : Byte) : 0x100 + sp.toNat ≠ 0x100 + (sp - 2).toNat ∧
    0x100 + (sp - 1).toNat ≠ 0x100 + (sp - 2).toNat := by constructor <;> bv_omega

section
variable {s : State} (hwf : s.ram.wf = true)
include hwf

theorem nmiEntry_pushes_hi : (nmiEntry s).ram.read (0x100 + s.sp.toNat) = hiByte s.pc := by
  rw [nmiEntry_ram_read hwf, if_neg (stackSlots_ne s.sp).1, if_neg (stackSlot_ne s.sp), if_pos rfl]

theorem nmiEntry_pushes_lo : (nmiEntry s).ram.read (0x100 + (s.sp - 1).toNat) = loByte s.pc := by
  rw [nmiEntry_ram_read hwf, if_neg (stackSlots_ne s.sp).2, if_pos rfl]

theorem nmiEntry_pushes_image : (nmiEntry s).ram.read (0x100 + (s.sp - 2).toNat) = nmiImage s.p := by
  rw [nmiEntry_ram_read hwf, if_pos rfl]

end

/-- The registers after the entry, and what it leaves alone (R460). -/
structure NmiEntered (s t : State) : Prop where
  a : t.a = s.a
  x : t.x = s.x
  y : t.y = s.y
  sp : t.sp = s.sp - 3
  p : t.p = putBit s.p bitI true
  pc : t.pc = prgVector s.cfg 0xFFFA
  cycles : t.cycles = s.cycles + 2
  ppu : t.ppu = (s.ppu.tick 6).1
  halted : t.halted = s.halted
  cfg : t.cfg = s.cfg
  stop : t.stop = s.stop

theorem nmiEntry_entered (s : State) : NmiEntered s (nmiEntry s) := by
  have h := busTick_ticked 2 (nmiPushed s)
  rw [nmiEntry_eq]
  exact ⟨h.a, h.x, h.y, h.sp, h.p, rfl, h.cycles, h.ppu, h.halted, h.cfg, h.stop⟩

/-- Settles O40: three different stack slots take PC and the status image; the tick changes no register. -/
theorem nmiEntryEffect : Obligations.NmiEntryEffect := by
  rintro s ⟨⟨hwf, -⟩, -⟩ t
  have h : NmiEntered s t := nmiEntry_entered s
  refine ⟨?pushedPc, ?pushedP, fun k h0 h1 h2 => ?rest, ⟨h.a, h.x, h.y, h.sp⟩, ?flagI, fun k hk => ?flags, ?pc, h.cycles, h.ppu,
    h.halted, h.cfg⟩
  case pushedPc =>
    rw [nmiEntry_pushes_hi hwf, nmiEntry_pushes_lo hwf, hiByte_toNat, loByte_toNat]
    exact Nat.div_add_mod _ 256
  case pushedP =>
    rw [nmiEntry_pushes_image hwf]
    rfl
  case rest => rw [nmiEntry_ram_read hwf, if_neg h2, if_neg h1, if_neg h0]
  case flagI =>
    rw [State.flagI, h.p]
    exact getLsbD_putBit_same _ _ (by decide)
  case flags =>
    rw [h.p]
    exact putBit_keeps _ _ (by decide) (mt List.mem_singleton.mpr hk)
  case pc =>
    rw [h.pc]
    exact toNat_wordOf _ _

/-- The status image is what a pull makes of it (R460, 44_control_flow.md R259). -/
theorem nmiImage_eq_pulledStatus (p : Byte) : nmiImage p = pulledStatus p := rfl

/-- A pull forces two bits, so it keeps a P that has them (10_state.md R27). -/
theorem State.StatusBits.pulledStatus {s : State} (h : s.StatusBits) : pulledStatus s.p = s.p := by
  obtain ⟨hB, hU⟩ := h
  refine byte_ext _ _ fun k _ => ?_
  rw [bitOf_pulledStatus]
  split_ifs with h5 h4
  · subst h5; exact hU.symm
  · subst h4; exact hB.symm
  · rfl

/-- Settles O41: RTI pulls the three bytes that the entry pushed, and the image of a P with the status bits is that P. -/
theorem nmiThenRtiRestores : Obligations.NmiThenRtiRestores := by
  rintro s ⟨-, hstop⟩ ⟨⟨hwf, -⟩, -⟩ hbits
  have h := nmiEntry_entered s
  have h1 : s.sp - 3 + 1 = s.sp - 2 := by bv_omega
  have h2 : s.sp - 3 + 2 = s.sp - 1 := by bv_omega
  have h3 : s.sp - 3 + 3 = s.sp := by bv_omega
  refine ⟨_, (exec_rti _).trans (finish_next _ (h.stop.trans hstop)), h.a, h.x, h.y, ?sp, ?status, ?retaddr⟩
  case sp => exact (congrArg (· + (3 : Byte)) h.sp).trans h3
  case status =>
    change pulledStatus ((nmiEntry s).ram.read _) = s.p
    rw [h.sp, h1, nmiEntry_pushes_image hwf, nmiImage_eq_pulledStatus, hbits.pulledStatus, hbits.pulledStatus]
  case retaddr =>
    rw [State.setPc_pc, h.sp, h2, h3, nmiEntry_pushes_hi hwf, nmiEntry_pushes_lo hwf, wordOf_lo_hi]

/-! ### A permissive machine goes on (section 1) -/

/-- Settles O8: BRK sets one bit, and every other instruction is made of moves, none of which stops a permissive machine. -/
theorem everyInstructionCompletes : Obligations.EveryInstructionCompletes := by
  rintro i s ⟨hstrict, hstop⟩
  by_cases hb : i = .brk
  · subst hb
    exact ⟨_, exec_brk_next hstop, ⟨hstrict, hstop⟩, rfl, rfl, rfl⟩
  · obtain ⟨t, hx, hm⟩ := exec_moves i s hb
    obtain ⟨-, hcycles, hcfg, hinput⟩ := hm.keeps
    have ht : t.stop = none := (hm.stop hstrict).trans hstop
    exact ⟨t, hx.trans (finish_next t ht), ⟨by rw [hcfg]; exact hstrict, ht⟩, hcfg, hcycles, hinput⟩

/-! ### A strict machine stops (section 1) -/

/-- The instruction answers by the stop that `u` holds: a next state if there is none, its fault if there is one. -/
def EndsAs (i : Instr) (s u : State) : Prop := ∃ t, exec i s = finish t ∧ t.stop = u.stop

theorem EndsAs.stopped {i : Instr} {s u : State} {r : Stop} (h : EndsAs i s u) (hu : u.stop = some r) : exec i s = stopped r := by
  obtain ⟨t, hx, ht⟩ := h
  exact hx.trans (finish_of_stop (ht.trans hu))

theorem endsAs_operand {i : Instr} {m : DataMode} {use : Byte → State → State} {s : State}
    (hx : exec i s = plain i (readOperand m use) s) (hu : ∀ v t, (use v t).stop = t.stop) : EndsAs i s (operand m s).2 :=
  ⟨_, hx, hu _ _⟩

theorem endsAs_store {i : Instr} {m : DataMode} {value : Addr → State → Byte} {s : State}
    (hx : exec i s = plain i (storeOperand m value) s) :
    EndsAs i s (busWrite (effAddr m s).1 (value (effAddr m s).1 (effAddr m s).2) (effAddr m s).2) := ⟨_, hx, rfl⟩

theorem endsAs_modify {i : Instr} {m : DataMode} {result : Byte → State → Byte} {after : Byte → State → State} {s : State}
    (hx : exec i s = plain i (modifyOperand m result after) s) (ha : ∀ v t, (after v t).stop = t.stop) :
    ∃ v, EndsAs i s (busWrite (effAddr m s).1 v (operand m s).2) := ⟨_, _, hx, ha _ _⟩

/-- TAS sets SP before its write, which makes no other access of it (46_unofficial.md R321). -/
theorem endsAs_tas (s : State) : EndsAs .tasAby s
    (busWrite (effAddr .aby s).1 (tasByte s (effAddr .aby s).1) (effAddr .aby s).2) := by
  refine ⟨advancePc .tasAby (tasRule .aby s), rfl, ?_⟩
  rw [advancePc_stop, tasRule_eq, State.setSp_stop]

/-- Every form that reads its operand ends as that read. -/
theorem readForms_endAs : ∀ f ∈ readForms, ∀ s : State, EndsAs f.1 s (operand f.2 s).2 := by
  intro f hf s
  fin_cases hf <;> exact endsAs_operand rfl fun _ _ => rfl

/-- Every form that stores ends as that write; TAS is the eighteenth of the list. -/
theorem storeForms_endAs : ∀ f ∈ storeForms, ∀ s : State,
    ∃ v, EndsAs f.1 s (busWrite (effAddr f.2 s).1 v (effAddr f.2 s).2) := by
  intro f hf s
  fin_cases hf
  on_goal 18 => exact ⟨_, endsAs_tas s⟩
  all_goals exact ⟨_, endsAs_store rfl⟩

/-- Every read-modify-write form ends as its write, made after its read (40_cpu_step_addressing.md R179). -/
theorem modifyForms_endAs : ∀ f ∈ modifyForms, ∀ s : State,
    ∃ v, EndsAs f.1 s (busWrite (effAddr f.2 s).1 v (operand f.2 s).2) := by
  intro f hf s
  fin_cases hf <;> exact endsAs_modify rfl fun _ _ => rfl

/-- The operand's read after the reads of its operand bytes. -/
theorem operand_strict (m : DataMode) {s : State} (hs : s.cfg.strict = true) :
    (operand m s).2.stop = (effAddr m s).2.stop.or (readStop (effAddr m s).1) :=
  busRead_strict _ _ (by rw [effAddr_cfg]; exact hs)

/-- No access of 0x4014 raises a stop of itself, so one that does starts no OAM DMA. -/
theorem ne_dma_of_stop {stopAt : Addr → Option Stop} (hdma : stopAt 0x4014 = none) {a : Addr} {r : Stop}
    (h : stopAt a = some r) : a ≠ 0x4014 := by
  rintro rfl
  rw [hdma] at h
  cases h

/-- The first InvalidAccess of the operand bytes ends every form with a memory operand. -/
theorem exec_operandStop {f : Instr × DataMode} (hf : f ∈ readForms ++ storeForms ++ modifyForms) {s : State} {r : Stop}
    (hs : s.cfg.strict = true) (hnone : s.stop = none) (hr : operandStop f.2 s.pc = some r) : exec f.1 s = stopped r := by
  have haddr : (effAddr f.2 s).2.stop = some r := by rw [effAddr_strict _ _ hs, hnone, hr]; rfl
  have hread : (operand f.2 s).2.stop = some r := busRead_stopped _ _ haddr
  rcases List.mem_append.mp hf with hf | hf
  · rcases List.mem_append.mp hf with hf | hf
    · exact (readForms_endAs f hf s).stopped hread
    · obtain ⟨v, h⟩ := storeForms_endAs f hf s
      exact h.stopped (busWrite_stopped _ _ _ haddr)
  · obtain ⟨v, h⟩ := modifyForms_endAs f hf s
    exact h.stopped (busWrite_stopped _ _ _ hread)

section
variable {f : Instr × DataMode} {s : State} {r : Stop} (hs : s.cfg.strict = true) (hnone : (effAddr f.2 s).2.stop = none)
include hs hnone

theorem exec_writeStop (hf : f ∈ storeForms) (hr : writeStop (effAddr f.2 s).1 = some r) : exec f.1 s = stopped r := by
  obtain ⟨v, h⟩ := storeForms_endAs f hf s
  refine h.stopped ?_
  rw [busWrite_strict _ _ _ (by rw [effAddr_cfg]; exact hs) (ne_dma_of_stop (by decide) hr), hnone, hr]
  rfl

theorem exec_readStop (hf : f ∈ readForms) (hr : readStop (effAddr f.2 s).1 = some r) : exec f.1 s = stopped r := by
  refine (readForms_endAs f hf s).stopped ?_
  rw [operand_strict _ hs, hnone, hr]
  rfl

/-- The read of a read-modify-write form comes first; if it raises nothing, its write does (40_cpu_step_addressing.md R179). -/
theorem exec_modifyStop (hf : f ∈ modifyForms)
    (hr : (readStop (effAddr f.2 s).1).or (writeStop (effAddr f.2 s).1) = some r) : exec f.1 s = stopped r := by
  obtain ⟨v, h⟩ := modifyForms_endAs f hf s
  have hdma := ne_dma_of_stop (stopAt := fun a => (readStop a).or (writeStop a)) (by decide) hr
  refine h.stopped ?_
  rw [busWrite_strict _ _ _ (by rw [(operand_cpuSame f.2 s).cfg]; exact hs) hdma, operand_strict _ hs, hnone, Option.or_assoc, hr]
  rfl

end

/-- The operand word of JMP and JSR: the reads of an indirect target come after it, the pushes of JSR before it (R251, R252). -/
theorem exec_wordStop {i : Instr} (hi : i ∈ ([.jmpAbs, .jmpInd, .jsr] : List Instr)) {s : State} {r : Stop}
    (hs : s.cfg.strict = true) (hnone : s.stop = none) (hr : wordStop s.pc = some r) : exec i s = stopped r := by
  have hword (u : State) (hu : u.cfg = s.cfg) (hu' : u.stop = s.stop) : (busRead16 s.pc u).2.stop = some r := by
    rw [busRead16_strict _ _ (by rw [hu]; exact hs), hu', hnone, hr]
    rfl
  fin_cases hi
  · exact finish_of_stop (s := jmpRule s) (hword s rfl rfl)
  · exact finish_of_stop (s := jmpIndirectRule s) (busRead_stopped _ _ (busRead_stopped _ _ (hword s rfl rfl)))
  · exact finish_of_stop (s := jsrRule s) (hword _ (by rw [push16_eq]) (by rw [push16_eq]))

/-- The two reads of an indirect JMP's target (44_control_flow.md R251). -/
theorem exec_pointerStop {s : State} {r : Stop} (hs : s.cfg.strict = true) (hnone : (busRead16 s.pc s).2.stop = none)
    (hr : (readStop (busRead16 s.pc s).1).or (readStop (jmpHighAddr (busRead16 s.pc s).1)) = some r) :
    exec .jmpInd s = stopped r := by
  have hcfg : (busRead16 s.pc s).2.cfg.strict = true := by rw [busRead16_cfg]; exact hs
  refine finish_of_stop (s := jmpIndirectRule s) ?_
  rw [jmpIndirectRule, State.setPc_stop, busRead_strict _ _ (by rw [busRead_cfg]; exact hcfg), busRead_strict _ _ hcfg, hnone,
    Option.none_or, hr]

/-- The offset byte of a branch is read when it is taken (44_control_flow.md R254). -/
theorem branch_stop {i : Instr} {cond : State → Bool} {s : State} {r : Stop} (hx : exec i s = finish (branchRule i cond s))
    (hs : s.cfg.strict = true) (hnone : s.stop = none) (hc : cond s = true) (hr : readStop s.pc = some r) :
    exec i s = stopped r := by
  refine hx.trans (finish_of_stop ?_)
  rw [branchRule, if_pos hc, State.setPc_stop, busRead_strict _ _ hs, hnone, hr]
  rfl

/-- A page of PPU registers starts at a mirror of 0x2000, which cannot be read (60_exceptions.md R453). -/
theorem readStop_page {v : Byte} (h : 0x20 ≤ v.toNat) (h' : v.toNat < 0x40) :
    readStop (wordOf 0x00 v) = some ⟨.readWriteOnly, BitVec.ofNat 16 (v.toNat * 256)⟩ := by
  have hnum : (BitVec.ofNat 16 (v.toNat * 256)).toNat = v.toNat * 256 := by rw [BitVec.toNat_ofNat]; omega
  have hreg : v.toNat * 256 % 8 = 0 := by omega
  rw [wordOf_zero, readStop, hnum, hreg, if_pos ⟨by omega, by omega, by decide⟩]

/-- A store of a register's byte, or of A and X, which starts the OAM DMA of a page of PPU registers (49_devices.md R431). -/
theorem store_dmaStop {i : Instr} {m : DataMode} {value : State → Byte} {s : State}
    (hx : exec i s = plain i (storeOperand m fun _ t => value t) s) (hv : value (effAddr m s).2 = value s)
    (hs : s.cfg.strict = true) (hnone : (effAddr m s).2.stop = none) (hea : (effAddr m s).1 = 0x4014)
    (h : 0x20 ≤ (value s).toNat) (h' : (value s).toNat < 0x40) :
    exec i s = stopped ⟨.readWriteOnly, BitVec.ofNat 16 ((value s).toNat * 256)⟩ := by
  refine (endsAs_store hx).stopped ?_
  rw [hea, hv]
  exact oamDma_strict _ _ (by rw [effAddr_cfg]; exact hs) hnone (readStop_page h h')

theorem serviceNmi_stop (s : State) : (serviceNmi s).stop = s.stop := by
  unfold serviceNmi
  split_ifs
  · exact (nmiEntry_entered (pollNmi s)).stop
  · rfl

theorem serviceNmi_cfg (s : State) : (serviceNmi s).cfg = s.cfg := (stepClosed_cfg s.cfg).keeps_serviceNmi rfl

/-- The opcode fetch, with or without an NMI entry before it (40_cpu_step_addressing.md R160). -/
theorem step_fetchStop {s : State} {r : Stop} (hs : s.cfg.strict = true) (hnone : s.stop = none) (hrun : s.halted = false)
    (hr : readStop (serviceNmi s).pc = some r) : step s = stopped r := by
  obtain ⟨i, hi⟩ := exists_decodeOpcode (fetchOpcode (serviceNmi s)).1
  have hstop : (fetchOpcode (serviceNmi s)).2.stop = some r := by
    rw [fetchOpcode, State.setPc_stop, busRead_strict _ _ (by rw [serviceNmi_cfg]; exact hs), serviceNmi_stop, hnone, hr]
    rfl
  rw [step_of_decodeOpcode hrun hi, exec_of_stop i hstop]
  rfl

/-- Settles O39: each clause is the stop of one access, at which the instruction or the step ends. -/
theorem strictMachineStops : Obligations.StrictMachineStops := by
  refine ⟨fun f hf s r => exec_operandStop hf, fun f hf s r hs hn => exec_writeStop hs hn hf,
    fun f hf s r hs hn => exec_readStop hs hn hf, fun f hf s r hs hn => exec_modifyStop hs hn hf,
    fun i hi s r => exec_wordStop hi, fun s r hs hn hr => ?pointer, fun f hf s r hs hn hc hr => ?branch,
    fun f hf s hs hn hea h h' => ?dma, fun s r => step_fetchStop, fun i s r => exec_of_stop i⟩
  case pointer =>
    exact exec_pointerStop hs hn (by rw [jmpHighAddr_eq]; exact hr)
  case branch =>
    have hx : exec f.1 s = finish (branchRule f.1 f.2 s) := by fin_cases hf <;> rfl
    exact branch_stop hx hs hn hc hr
  case dma =>
    obtain ⟨hx, hv⟩ : exec f.1 s = plain f.1 (storeOperand f.2.1 fun _ t => f.2.2 t) s ∧
        f.2.2 (effAddr f.2.1 s).2 = f.2.2 s := by
      have h := effAddr_cpuSame f.2.1 s
      fin_cases hf <;> exact ⟨rfl, by simp only [h.a, h.x, h.y]⟩
    exact store_dmaStop hx hv hs hn hea h h'

end Sys2Proof.Machine
end

section
/-! PROOFS of the families 70_reset_and_hazards.md and 30_encoding.md (its sample words). The reset is its closed form
(`cpuReset_eq`), the cost of a step is the tick that retires its instruction (`retire`), and each sample word is a round trip. -/
namespace Sys2Proof.Machine

/-- The word at a vector address, as arithmetic (20_memory.md R95). -/
theorem prgVector_eq (c : Config) (a : Addr) :
    prgVector c a = BitVec.ofNat 16 ((prgRead c a).toNat + 256 * (prgRead c (a + 1)).toNat) := by
  rw [prgVector, ← toNat_wordOf, BitVec.ofNat_toNat, BitVec.setWidth_eq]

/-- An instruction leaves the cycle count alone: the step charges its cost. -/
theorem exec_cycles {i : Instr} {s t : State} (h : exec i s = .next t) : t.cycles = s.cycles := by
  obtain ⟨-, ⟨-, rfl⟩ | ⟨-, hm⟩⟩ := exec_next h
  · rfl
  · exact hm.keeps.2.1

theorem retire_cycles (i : Instr) (bytes : List Byte) (s : State) : (retire i bytes s).cycles = s.cycles + i.cycles :=
  (busTick_ticked i.cycles s).cycles

/-- Retiring an instruction traces the registers after it, newest of the events (40_cpu_step_addressing.md R164). -/
theorem retire_events_head (i : Instr) (bytes : List Byte) (s : State) :
    let t := retire i bytes s
    t.events.head? = some (.trace t.a t.x t.y t.sp t.p t.pc bytes i) := rfl

/-- Settles O7: a step that leaves the machine running ends by retiring its instruction, which alone counts cycles. -/
theorem stepChargesTheTableCost : Obligations.StepChargesTheTableCost := by
  intro s t hnmi hstep hrun
  have hidle : serviceNmi s = s := serviceNmi_of_not_pending hnmi
  obtain ⟨-, i, bytes, u, hi, hx, hbytes, hend⟩ := step_next hstep
  rw [hidle] at hi hx hbytes
  have hlen : bytes.length = i.len := by
    have := i.len_bounds
    rw [hbytes, List.length_cons, peekBytes_length]
    omega
  have hcycles : u.cycles = s.cycles := (exec_cycles hx).trans (busRead_cycles s.pc s)
  obtain ⟨hhalt, rfl⟩ | ⟨-, rfl⟩ := hend
  · rw [hrun] at hhalt
    cases hhalt
  · exact ⟨i, bytes, hi, by rw [retire_cycles, hcycles], retire_events_head i bytes u, hlen⟩

end Sys2Proof.Machine

namespace Sys2Proof

/-- Settles O53: the reset's two Bus reads are of PRG-ROM, so they change nothing. -/
theorem cpuReset : Obligations.CpuReset := by
  intro s
  rw [Machine.cpuReset_eq, Machine.prgVector_eq]
  rfl

/-- Settles O4: each word is the encoding of its instruction, in one case with a byte after it, and so it decodes to it. -/
theorem decodeTableWords : Obligations.DecodeTableWords :=
  ⟨decodeOfEncode ⟨.ldaImm, [0x05]⟩ [] rfl, decodeOfEncode ⟨.ldaAbs, [0x02, 0x20]⟩ [] rfl,
    decodeOfEncode ⟨.jmpInd, [0x20, 0x01]⟩ [] rfl, decodeOfEncode ⟨.staIzy, [0x10]⟩ [] rfl,
    decodeOfEncode ⟨.bne, [0xFB]⟩ [] rfl, decodeOfEncode ⟨.aslAcc, []⟩ [] rfl, decodeOfEncode ⟨.brk, []⟩ [0xEA] rfl,
    decodeOfEncode ⟨.nopEA, []⟩ [] rfl, decodeOfEncode ⟨.sloZp, [0x10]⟩ [] rfl, decodeOfEncode ⟨.shyAbx, [0x00, 0x02]⟩ [] rfl⟩

end Sys2Proof
end
